-- ==== Sys2Proof/Word.lean ====
section
/-! DEFINITION. The two kinds of machine word the spec treats as bits: a byte of the control link
(R161, R162), which is also the width of a note serial (00_scope, Quantities and units: 8 bits,
wraps from 255 to 0), and a 24-bit count of the Capture Timebase (R18). Every other quantity of
the spec (levels, frames, pitch units) is a number, not bits, and is a `Nat` or an `Int`. -/

namespace Sys2Proof

/-- One byte of the control link (R161); also a note serial, which wraps from 255 to 0. -/
abbrev Byte := BitVec 8

/-- A count of the Capture Timebase, 24 bits wide, wrapping (R18); intervals are differences
taken modulo 2^24 (R19), which is subtraction at this type. -/
abbrev Stamp := BitVec 24

end Sys2Proof
end

