-- ==== Sys2Proof/Syntax.lean ====
section
/-! DEFINITION. The steps of the part, one constructor of `Instr` for each row of
spec/opcode_table.json. The part is a block: its steps are the executions of host commands by the
command handler, the bytes and pins that reach it from outside, and the events of its own blocks,
each "whole and indivisible" (95_what_each_step_holds). A step that belongs to one string carries
the string; a step that takes something from outside carries it. -/

namespace Sys2Proof

/-- String 1 to string 8 (00_scope, Quantities and units): exactly the eight strings, so that no
ninth can be named. -/
inductive Str where
  | s1 | s2 | s3 | s4 | s5 | s6 | s7 | s8
  deriving DecidableEq, Repr

/-- The eight strings in ascending order. -/
def Str.all : List Str := [.s1, .s2, .s3, .s4, .s5, .s6, .s7, .s8]

/-- The number a string is called by, 1 to 8. -/
def Str.number : Str → Nat
  | .s1 => 1 | .s2 => 2 | .s3 => 3 | .s4 => 4
  | .s5 => 5 | .s6 => 6 | .s7 => 7 | .s8 => 8

/-- The string a number names; none outside 1 to 8. -/
def Str.ofNumber : Nat → Option Str
  | 1 => some .s1 | 2 => some .s2 | 3 => some .s3 | 4 => some .s4
  | 5 => some .s5 | 6 => some .s6 | 7 => some .s7 | 8 => some .s8
  | _ => none

/-- One value for each string. -/
structure Eight (α : Type) where
  v1 : α
  v2 : α
  v3 : α
  v4 : α
  v5 : α
  v6 : α
  v7 : α
  v8 : α
  deriving DecidableEq, Repr

/-- The value of one string. -/
def Eight.get {α : Type} (e : Eight α) : Str → α
  | .s1 => e.v1 | .s2 => e.v2 | .s3 => e.v3 | .s4 => e.v4
  | .s5 => e.v5 | .s6 => e.v6 | .s7 => e.v7 | .s8 => e.v8

/-- The same values but for one string's. -/
def Eight.set {α : Type} (e : Eight α) (n : Str) (x : α) : Eight α :=
  match n with
  | .s1 => { e with v1 := x }
  | .s2 => { e with v2 := x }
  | .s3 => { e with v3 := x }
  | .s4 => { e with v4 := x }
  | .s5 => { e with v5 := x }
  | .s6 => { e with v6 := x }
  | .s7 => { e with v7 := x }
  | .s8 => { e with v8 := x }

/-- The eight values a function of the string gives. -/
def Eight.of {α : Type} (f : Str → α) : Eight α :=
  ⟨f .s1, f .s2, f .s3, f .s4, f .s5, f .s6, f .s7, f .s8⟩

/-- The two rate straps as they are read (R161): RATE1 and RATE0, `true` for high. -/
structure Straps where
  rate1 : Bool
  rate0 : Bool
  deriving DecidableEq, Repr

/-- The steps of the part.

The first seventeen are executions by the command handler: the handler takes the OLDEST frame of
the command input buffer (R166), so the operands of the command are the bytes of that frame and
the constructor carries none. The rest carry the string they concern and what they take from
outside. -/
inductive Instr where
  /-- IDENT (R168). -/
  | ident
  /-- STATUS (R172). -/
  | status
  /-- SET-PROFILE (R143). -/
  | setProfile
  /-- GET-PROFILE (R148). -/
  | getProfile
  /-- COMMIT (R146). -/
  | commit
  /-- SET-GLOBAL (R149). -/
  | setGlobal
  /-- GET-GLOBAL (R148). -/
  | getGlobal
  /-- CLEAR-CONDITIONS (R156). -/
  | clearConditions
  /-- EVENTS (R134). -/
  | events
  /-- FLUSH (R92). -/
  | flush
  /-- RELEASE-DAMP (R90). -/
  | releaseDamp
  /-- LOCK (R150). -/
  | lock
  /-- DOZE, KIND 0Dh with operand 0 (R176). -/
  | doze
  /-- WAKE, KIND 0Dh with operand 1 (R177). -/
  | wake
  /-- READ-VOICE (R96). -/
  | readVoice
  /-- RESTART (R175). -/
  | restart
  /-- A frame whose KIND is no command, refused with UNKNOWN-KIND (R166). -/
  | unknownKind
  /-- A byte from LRX with the level of its stop bit; a low stop bit is a line error (R161). -/
  | receivedByte (byte : Byte) (stopHigh : Bool)
  /-- The inter-byte timer reaches 9 (R164). -/
  | interByteTimeout
  /-- The idle transmitter takes a frame (R167). -/
  | transmitTake
  /-- The stop bit of a frame's last byte ends (R167). -/
  | frameSent
  /-- The restart takes effect; the straps are read (R175, R161). -/
  | restartReset (straps : Straps)
  /-- Supply applied (R174); the straps are read. -/
  | powerOn (straps : Straps)
  /-- The RESET_N pin driven low (R174). -/
  | resetN
  /-- The supply falls and recovers (R174); the straps are read. -/
  | supplyDrop (straps : Straps)
  /-- The settle timer reaches 512 (R173). -/
  | startEnd
  /-- One conversion instant (R1): each string's signal in 1/128 level at gain x1. `order` is the
  order in which the strings whose CLIP is raised at this instant reach the Condition Monitor;
  strings it leaves out follow in ascending order. -/
  | sample (signals : Eight Int) (order : List Str)
  /-- The capture unit takes the crossing its lane has handed on (R26). -/
  | crossing (n : Str)
  /-- The voice takes the estimate its capture unit has delivered (R33). -/
  | estimate (n : Str)
  /-- The end of a frame (R10), with the level of the DAMP pin at it (R88), `true` for asserted. -/
  | frameEnd (damp : Bool)
  /-- The clip quiet count reaches 128 (R12). -/
  | clipEnd (n : Str)
  /-- The open hold count reaches 256 (R13). -/
  | openActive (n : Str)
  /-- The open release count reaches 256 (R14). -/
  | openEnd (n : Str)
  /-- The detector judges the frame's envelope (R42). -/
  | articulationJudgement (n : Str)
  /-- The judgement at which the dip timer reaches the release hold (R52). -/
  | releaseHoldExpiry (n : Str)
  /-- The voice takes a completed velocity value (R54). -/
  | velocityCompletion (n : Str)
  /-- The per-frame step of a suspicion (R102). -/
  | bleedPerFrameStep (n : Str)
  /-- The per-frame step at which the bleed window runs out (R67, R102). -/
  | bleedWindowExpiry (n : Str)
  /-- The acquisition timer reaches its limit (R71). -/
  | acquisitionExpiry (n : Str)
  /-- The stall timer reaches the stall time (R82). -/
  | stallExpiry (n : Str)
  /-- The lost timer reaches the lost limit (R83). -/
  | lostLimitExpiry (n : Str)
  /-- A boundary of the PERIODIC schedule (R115). -/
  | glideBoundary (n : Str)
  /-- The retrigger drop runs out (R121). -/
  | retriggerDropExpiry (n : Str)
  /-- The debounced damp level becomes asserted (R88, R89). -/
  | dampAssertion
  /-- The debounced damp level becomes deasserted (R88, R89). -/
  | dampDeassertion
  /-- The idle timer reaches the doze idle time (R176). -/
  | idleDoze
  /-- One or more envelopes reach the wake threshold in DOZE (R177). `order` is the order in which
  the waking voices take their ONSETs (R106 leaves it open); waking strings it leaves out follow
  in ascending order. -/
  | wakeByString (order : List Str)
  /-- RESET_N is released and the straps are read (R174). -/
  | resetNReleased (straps : Straps)
  deriving DecidableEq, Repr

end Sys2Proof
end

