-- ==== Sys2Proof/Decode.lean ====
section
/-! DEFINITION. Reading a step from a word of the opcode table. No row of spec/opcode_table.json
gives bits (every row's "fields" is empty and none has "fixed"): the steps of this block are
events, not encoded instructions. The bytes of the host's command frames are decoded by the
receiver and the handler, which are part of the machine (R163, R166), not here. -/

namespace Sys2Proof

/-- The step a table word spells: none, for no row of the table gives bits. -/
def decodeTableWord (_nbits _w : Nat) : Option Instr := none

end Sys2Proof
end

