-- ==== Sys2Proof/Config.lean ====
section
/-! DEFINITION. What the spec leaves open and an implementation fixes, as constants without a
body: no proof can learn their values, so a theorem holds whatever they are. -/

namespace Sys2Proof

/-- R1 says how a signal is scaled and limited, and that a converted sample is a whole level; it
does not say to which of its two neighbouring levels a scaled signal that lies strictly between
them converts. FREE VALUE (notes/assumptions/2.md): for a signal (in 1/128 level at gain x1) and
a gain code, whether the conversion takes the upper neighbour. -/
opaque Config.conversionRoundsUp : Int → Nat → Bool

/-- R32 carries the pitch calculation "to a precision finer than 1/16 pu before it rounds". Where
the exact pitch of a period lies within 1/16 pu of the point at which rounding changes, either
neighbour is a correct result. FREE VALUE (notes/assumptions/3.md): for a period `num / den`,
whether the unit then delivers the upper one. -/
opaque Config.pitchRoundsUp : Nat → Nat → Bool

end Sys2Proof
end

