-- ==== Sys2Proof/Machine/Arith.lean ====
section
/-! DEFINITION. The numeric helpers of the rules: rounding, limiting, the period of a note and the
pitch of a period. Periods and pitches are irrational in general; both are decided exactly, by
comparing powers of whole numbers. -/

namespace Sys2Proof.Machine

/-- `x / d` rounded to the nearest whole number, halves away from zero (R2, R3, R5, R16). -/
def roundHalfAway (x : Int) (d : Nat) : Int :=
  let q : Int := ((2 * x.natAbs + d) / (2 * d) : Nat)
  if x < 0 then -q else q

/-- `x / d` rounded to the nearest whole number, halves up (R8, R54, R70). -/
def roundHalfUp (x d : Nat) : Nat := (2 * x + d) / (2 * d)

/-- `x` limited to the range `lo` to `hi`. -/
def limitTo (lo hi x : Int) : Int := max lo (min hi x)

/-- The magnitude of the difference of two numbers. -/
def distance (x y : Int) : Nat := (x - y).natAbs

/-- The greatest number below `acc + 2 ^ bits` from `acc` on that passes a test which every
smaller number passes too. -/
def greatest (test : Nat → Bool) : Nat → Nat → Nat
  | 0, acc => acc
  | bits + 1, acc =>
    if test (acc + 2 ^ bits) then greatest test bits (acc + 2 ^ bits) else greatest test bits acc

/-- Whether `k` counts are at most the period of note `halfNotes / 2` (R20). The period is
4,096,000 / (440 × 2^((x − 69)/12)), so the twenty-fourth powers are compared. -/
def withinPeriod (halfNotes k : Nat) : Bool :=
  Nat.ble ((k * 440) ^ 24 * 2 ^ halfNotes) (4096000 ^ 24 * 2 ^ 138)

/-- The period of note `halfNotes / 2` rounded down to a whole count (R20). -/
def periodDown (halfNotes : Nat) : Nat := greatest (withinPeriod halfNotes) 18 0

/-- The period of note `halfNotes / 2` rounded up to a whole count (R20). -/
def periodUp (halfNotes : Nat) : Nat :=
  let k := periodDown halfNotes
  if (k * 440) ^ 24 * 2 ^ halfNotes = 4096000 ^ 24 * 2 ^ 138 then k else k + 1

/-- Whether the pitch of the period `num / den`, raised by `(sixteenths − 8) / 16` pu, is at least
`p` (R32): 64 × (69 + 12 × log2(f / 440)) is compared by powers of 12,288 = 16 × 64 × 12. -/
def pitchReaches (num den sixteenths p : Nat) : Bool :=
  Nat.ble ((440 * num) ^ 12288 * 2 ^ (16 * p)) ((4096000 * den) ^ 12288 * 2 ^ (16 * 4416 + sixteenths))

/-- The pitch value of a period of `num / den` counts (R32). The nearest pu, halves up; where the
exact pitch lies within 1/16 pu of the rounding point the precision the rule asks for leaves both
neighbours open, and `Config.pitchRoundsUp` says which (log 3). -/
def pitchOf (num den : Nat) : Nat :=
  let low := greatest (pitchReaches num den 7) 13 0
  let high := greatest (pitchReaches num den 9) 13 0
  if low = high then low else if Config.pitchRoundsUp num den then high else low

/-- A note number from a pitch value: divided by 64, rounded to the nearest, halves up (R70, R73). -/
def noteOf (pitch : Nat) : Nat := (pitch + 32) / 64

/-- The offset of a pitch from a base note (R70). -/
def offsetFrom (base pitch : Nat) : Int := (pitch : Int) - 64 * (base : Int)

end Sys2Proof.Machine
end

