-- ==== Sys2Proof/Machine/Types.lean ====
section
/-! DEFINITION. The data the blocks of the part hold: settings, lanes, capture units, detectors,
voices, reporters, gate lines, records, conditions, the link and the modes. Types only; each
names the rule that gives the item. -/

namespace Sys2Proof.Machine

/-! ## Settings (R140, R149) -/

/-- Start policy, field 24 (R140). -/
inductive StartPolicy where
  | fast | confirmed
  deriving DecidableEq, Repr

/-- Legato policy, field 26 (R140). -/
inductive LegatoPolicy where
  | step | glide | split
  deriving DecidableEq, Repr

/-- Glide mode, field 32 (R140): ON-ESTIMATE, or PERIODIC with its interval in frames. -/
inductive GlideMode where
  | onEstimate
  | periodic (interval : Nat)
  deriving DecidableEq, Repr

/-- One association entry, field 30 (R98): a source string and a ratio in sixteenths. -/
structure Association where
  source : Str
  ratio : Nat
  deriving DecidableEq, Repr

/-- A profile: the 35 fields of R140, in index order. -/
structure Profile where
  enabled : Bool
  openNote : Nat
  span : Nat
  downAllowance : Nat
  bendRange : Nat
  gainCode : Nat
  bandCode : Nat
  hysteresis : Nat
  persistence : Nat
  decayStep : Nat
  edgeSpanCode : Nat
  attackGuard : Nat
  toleranceCode : Nat
  onThreshold : Nat
  offThreshold : Nat
  dipMin : Nat
  dipMax : Nat
  releaseHoldCode : Nat
  surgeRatio : Nat
  surgeWindow : Nat
  surgeRefractory : Nat
  velocityWindow : Nat
  velocityReference : Nat
  startPolicy : StartPolicy
  acquisitionLimit : Nat
  legatoPolicy : LegatoPolicy
  stepThreshold : Nat
  stepHold : Nat
  lostLimit : Nat
  associations : List Association
  bleedWindow : Nat
  glideMode : GlideMode
  deadband : Nat
  slew : Nat
  retriggerDrop : Nat
  deriving DecidableEq, Repr

/-- Damp mode (R89, R149). -/
inductive DampMode where
  | off | follow | latch
  deriving DecidableEq, Repr

/-- A set drawn from CLIP, OPEN and BACKLOG: the report mask (R149). -/
structure KindSet where
  clip : Bool
  openKind : Bool
  backlog : Bool
  deriving DecidableEq, Repr

/-- The global settings record (R149). -/
structure Globals where
  dampMode : DampMode
  dozeIdleCode : Nat
  wakeThreshold : Nat
  reportMask : KindSet
  highWater : Nat
  deriving DecidableEq, Repr

/-! ## Input conditioning (chapter 1) -/

/-- The crossing detector's arm (R6, R7). -/
inductive Arm where
  | disarmed | armed
  deriving DecidableEq, Repr

/-- The latest transit (R8): the earlier and the later filtered value, in 1/4096 level, and the
stamp of the earlier sample. -/
structure Transit where
  earlier : Int
  later : Int
  stamp : Stamp
  deriving DecidableEq, Repr

/-- What a lane keeps of the frame in progress: the sum of its raw samples (R3), the largest
magnitude of its conditioned samples (R10), whether a raw sample stood at a conversion limit
(R12), whether the frame is high (R13), and whether a crossing was accepted in it (R13). -/
structure LaneFrame where
  sum : Int
  peak : Nat
  limit : Bool
  high : Bool
  crossed : Bool
  deriving DecidableEq, Repr

/-- The state of a lane (section 1.1). Filter sections are held in 1/4096 level. -/
structure Lane where
  offset : Int
  startSum : Int
  filter1 : Int
  filter2 : Int
  arm : Arm
  below : Nat
  above : Nat
  transit : Option Transit
  envelope : Nat
  clipQuiet : Nat
  openHold : Nat
  openRelease : Nat
  frame : LaneFrame
  deriving DecidableEq, Repr

/-! ## Period capture (chapter 2) -/

/-- The two kinds of estimate. -/
inductive EstimateKind where
  | full | provisional
  deriving DecidableEq, Repr

/-- An estimate: its kind and its pitch value (R33). -/
structure Estimate where
  kind : EstimateKind
  pitch : Nat
  deriving DecidableEq, Repr

/-- The state of a capture unit (section 2.3), with the crossing its lane has handed on and it
has not taken (R36), and the estimate it has delivered and the voice has not taken (R33). The
ring is oldest first. -/
structure Capture where
  ring : List Stamp
  guard : Nat
  age : Nat
  pmin : Nat
  pmax : Nat
  lastEstimate : Option Estimate
  handed : Option Stamp
  delivered : Option Estimate
  deriving DecidableEq, Repr

/-! ## Articulation detection (chapter 3) -/

/-- The articulation gate (section 3.1). -/
inductive Gate where
  | closed | opened | dip
  deriving DecidableEq, Repr

/-- The velocity tracker's phase (section 3.1). -/
inductive Phase where
  | idle | running | complete
  deriving DecidableEq, Repr

/-- The state of an articulation detector (section 3.1). `judgementDue`: the envelope of this
frame end has reached the detector and is not yet judged (R42). `completion`: a velocity value
completed at this frame end and not yet taken by the voice (R54). -/
structure Detector where
  gate : Gate
  rearmWait : Bool
  dipTimer : Nat
  refractory : Nat
  floor : List Nat
  phase : Phase
  peak : Nat
  remaining : Nat
  clipMark : Bool
  velocity : Option Nat
  judgementDue : Bool
  completion : Option Nat
  deriving DecidableEq, Repr

/-! ## Voice (chapter 4) -/

/-- The six states of a voice (R61). -/
inductive VoiceState where
  | quiet | suspect | acquiring | sounding | silent | muted
  deriving DecidableEq, Repr

/-- How a note started (section 4.1). -/
inductive StartKind where
  | normal | provisional | unpitched
  deriving DecidableEq, Repr

/-- A step candidate (R74). -/
structure Candidate where
  pitch : Nat
  count : Nat
  deriving DecidableEq, Repr

/-- The voice context (section 4.1). `damp` and `openCause` are the set of mute causes.
`stallFresh`: the stall timer was started at the instant of the frame end not yet taken, and so
does not advance at it (R62). -/
structure Voice where
  state : VoiceState
  damp : Bool
  openCause : Bool
  serial : Byte
  baseNote : Option Nat
  currentPitch : Option Nat
  startKind : Option StartKind
  velocity : Option Nat
  carried : Nat
  held : Option Estimate
  candidate : Option Candidate
  stallTimer : Option Nat
  stallFresh : Bool
  lost : Bool
  lostTimer : Option Nat
  acqTimer : Option Nat
  acqExpired : Bool
  reported : Bool
  fix : Bool
  deriving DecidableEq, Repr

/-- The bleed window timer (R102); `stepDue`: this frame end still owes its per-frame step. -/
structure Bleed where
  timer : Option Nat
  stepDue : Bool
  deriving DecidableEq, Repr

/-! ## Glide reporter and gate line (chapter 6) -/

/-- The state of a glide reporter (section 6.1). `boundaryDue`: the schedule reached its interval
at this frame end, and the reporter's event there, slew step and check, is not yet taken (R115). `fresh`: the schedule started at
the instant of the frame end not yet taken, and does not advance at it (R115). -/
structure Reporter where
  output : Option Nat
  lastReported : Option Int
  schedule : Option Nat
  boundaryDue : Bool
  fresh : Bool
  deriving DecidableEq, Repr

/-- The state of a gate line (section 6.1) and the level of its pin (R118). `checkDue`: this frame
end still owes the comparison of R121. `fresh`: the drop started at the instant of the frame end
not yet taken, and does not rise at it (R121). -/
structure GateLine where
  high : Bool
  pin : Bool
  drop : Option Nat
  checkDue : Bool
  fresh : Bool
  deriving DecidableEq, Repr

/-! ## Conditions (chapter 9) -/

/-- The two conditions kept for each string. -/
inductive StringKind where
  | clip | openKind
  deriving DecidableEq, Repr

/-- The markers of one condition (section 9.1). -/
structure Markers where
  active : Bool
  latched : Bool
  endMark : Bool
  deriving DecidableEq, Repr

/-- Everything the part keeps for one string. -/
structure Channel where
  active : Profile
  staged : Profile
  pendingFlag : Bool
  lane : Lane
  capture : Capture
  detector : Detector
  voice : Voice
  bleed : Bleed
  reporter : Reporter
  gateLine : GateLine
  clip : Markers
  openMarks : Markers
  deriving DecidableEq, Repr

/-! ## Event records (R125) -/

/-- The flag of a NOTE-ON. -/
inductive NoteFlag where
  | none | provisional | unpitched | legato | slid
  deriving DecidableEq, Repr

/-- The reason of a NOTE-OFF. -/
inductive OffReason where
  | release | restrike | legato | slid | lost | flush | reconfigure | damped | muted | doze
  deriving DecidableEq, Repr

/-- What a CONDITION record is about: a string's CLIP or OPEN, or BACKLOG. -/
inductive ConditionSource where
  | string (kind : StringKind) (n : Str)
  | backlog
  deriving DecidableEq, Repr

/-- The reset cause record (R174). -/
structure Causes where
  power : Bool
  pin : Bool
  supplyDrop : Bool
  restart : Bool
  deriving DecidableEq, Repr

/-- What woke the part (R177). -/
inductive WakeCause where
  | string (n : Str)
  | command
  deriving DecidableEq, Repr

/-- The topic of a NOTICE. -/
inductive Topic where
  | hello (causes : Causes)
  | woke (cause : WakeCause)
  | dozing
  | dampOn
  | dampOff
  deriving DecidableEq, Repr

/-- An event record (R125). -/
inductive Record where
  | noteOn (n : Str) (serial : Byte) (baseNote velocity : Nat) (offset : Int) (flag : NoteFlag)
  | noteOff (n : Str) (serial : Byte) (reason : OffReason)
  | glide (n : Str) (serial : Byte) (offset : Int)
  | pitchFix (n : Str) (serial : Byte) (baseNote : Nat) (offset : Int)
  | condition (source : ConditionSource) (activeNow : Bool)
  | notice (topic : Topic)
  deriving DecidableEq, Repr

/-- The event queue (R126, R127, R133, R134); the records are oldest first. -/
structure Queue where
  records : List Record
  reserved : Nat
  dropped : Bool
  gateOpen : Bool
  deriving DecidableEq, Repr

/-! ## Mute logic (R88, R89) -/

/-- The mute logic. `changeDue`: the two latest samples of the pin agree with each other and
differ from the debounced level, and the change is not yet taken. `pin`: the pin as last seen. -/
structure Mute where
  debounced : Bool
  previous : Option Bool
  changeDue : Bool
  latch : Bool
  inForce : Bool
  pin : Bool
  deriving DecidableEq, Repr

/-! ## Control link (chapter 10) -/

/-- The receiver's states (R163). -/
inductive RxState where
  | hunt | length | body | check
  deriving DecidableEq, Repr

/-- A complete frame: its KIND and its payload; LEN is one more than the payload's length. -/
structure Frame where
  kind : Byte
  payload : List Byte
  deriving DecidableEq, Repr

/-- The outcome of a command (R166). -/
inductive ReplyOutcome where
  | taken | committed | staged | nothing
  | unknownKind | badLength | badString
  | badField (index : Nat)
  | locked | wrongMode | wrongState
  deriving DecidableEq, Repr

/-- A reply in the slot (R166, R171): its KIND, the two bytes of the status summary, the outcome
and the data. -/
structure Reply where
  kind : Byte
  summary0 : Byte
  summary1 : Byte
  outcome : ReplyOutcome
  data : List Byte
  deriving DecidableEq, Repr

/-- The transmitter (R167): IDLE, or SENDING the bytes of a frame; `restartReply` marks the reply
of a RESTART, at whose end the restart takes effect (R175). -/
inductive Transmitter where
  | idle
  | sending (bytes : List Byte) (restartReply : Bool)
  deriving DecidableEq, Repr

/-- The link controller (R163 to R167, R169), with the straps as read at the last reset (R161). -/
structure Link where
  rxState : RxState
  rxLength : Nat
  rxBody : List Byte
  rxTimer : Nat
  buffer : List Frame
  slot : Option Reply
  tx : Transmitter
  overrun : Bool
  frameErr : Bool
  straps : Straps
  deriving DecidableEq, Repr

/-! ## Mode controller (chapter 11) -/

/-- The mode of the part. -/
inductive Mode where
  | start | run | doze
  deriving DecidableEq, Repr

/-- Whether a restart is due (R175), and whether its reply frame has ended. -/
inductive RestartPhase where
  | none | due | replySent
  deriving DecidableEq, Repr

/-- The mode controller. `idleDue`: the idle timer reached the doze idle time at this frame end and
doze entry has not followed yet (R176). `wakeDue`: this frame end in DOZE still owes its wake
detection (R177). `resetPinLow`: RESET_N is held low (R174). -/
structure Modes where
  mode : Mode
  causes : Causes
  settle : Nat
  idle : Nat
  idleDue : Bool
  wakeDue : Bool
  restart : RestartPhase
  resetPinLow : Bool
  deriving DecidableEq, Repr

end Sys2Proof.Machine
end

