-- ==== Sys2Proof/Machine/Tables.lean ====
section
/-! DEFINITION. The constants and tables of the spec: the tables its codes select from, the default
profiles and global settings, and the period limits a profile gives. -/

namespace Sys2Proof.Machine

/-- Records the event queue holds at most (R126). -/
def queueCapacity : Nat := 32

/-- Frames of START (R173). -/
def startFrames : Nat := 512

/-- The section coefficient of a band code, in 1/4096 (R5). -/
def bandCoefficient : Nat → Nat
  | 0 => 127 | 1 => 196 | 2 => 309 | 3 => 477
  | 4 => 730 | 5 => 1104 | 6 => 1589 | _ => 1911

/-- The number of edges E of an edge span code (R22). -/
def edgesOf : Nat → Nat
  | 0 => 2 | 1 => 3 | 2 => 5 | _ => 9

/-- The release hold in frames of its code (R49). -/
def releaseHold (code : Nat) : Nat := 4 * 2 ^ code

/-- The doze idle time in frames of its code, for codes 1 to 15 (R149). -/
def dozeIdleTime (code : Nat) : Nat := 64 * 2 ^ code

/-- Pmin of a profile: the period of note open note + span + bend range + 0.5, rounded down
(R20). -/
def Profile.pmin (p : Profile) : Nat := periodDown (2 * (p.openNote + p.span + p.bendRange) + 1)

/-- Pmax of a profile: the period of note open note − down allowance − 0.5, rounded up (R20). -/
def Profile.pmax (p : Profile) : Nat := periodUp (2 * (p.openNote - p.downAllowance) - 1)

/-- The stall time of a Pmax: 4 × Pmax in frames, rounded up, at least 8 (R82). -/
def stallTime (pmax : Nat) : Nat := max 8 ((4 * pmax + 1023) / 1024)

/-- The default open note of each string (R140). -/
def defaultOpenNote : Str → Nat
  | .s1 => 64 | .s2 => 59 | .s3 => 55 | .s4 => 50
  | .s5 => 45 | .s6 => 40 | .s7 => 35 | .s8 => 30

/-- The default band code of each string (R5, R140). -/
def defaultBandCode : Str → Nat
  | .s1 => 5 | .s2 => 4 | .s3 => 4 | .s4 => 3
  | .s5 => 3 | .s6 => 2 | .s7 => 1 | .s8 => 1

/-- Strings 1 to 6 are enabled by default, 7 and 8 are not (R140). -/
def defaultEnabled : Str → Bool
  | .s7 | .s8 => false
  | _ => true

/-- The default profile of a string (R140). -/
def defaultProfile (n : Str) : Profile where
  enabled := defaultEnabled n
  openNote := defaultOpenNote n
  span := 24
  downAllowance := 2
  bendRange := 4
  gainCode := 3
  bandCode := defaultBandCode n
  hysteresis := 24
  persistence := 2
  decayStep := 6
  edgeSpanCode := 1
  attackGuard := 2
  toleranceCode := 4
  onThreshold := 160
  offThreshold := 96
  dipMin := 4
  dipMax := 40
  releaseHoldCode := 6
  surgeRatio := 20
  surgeWindow := 8
  surgeRefractory := 24
  velocityWindow := 4
  velocityReference := 1536
  startPolicy := .fast
  acquisitionLimit := 80
  legatoPolicy := .split
  stepThreshold := 40
  stepHold := 2
  lostLimit := 200
  associations := []
  bleedWindow := 12
  glideMode := .periodic 2
  deadband := 2
  slew := 0
  retriggerDrop := 4

/-- The default global settings (R149). -/
def defaultGlobals : Globals where
  dampMode := .follow
  dozeIdleCode := 12
  wakeThreshold := 400
  reportMask := ⟨true, true, true⟩
  highWater := 28

end Sys2Proof.Machine
end

