-- ==== Sys2Proof/Machine/ResetValues.lean ====
section
/-! DEFINITION. The value each block takes at a reset: R17 (lane), R39 (capture unit), R59
(detector), R97 (voice and mute logic), R108 (bleed), R124 (reporter and gate line), R137 (queue),
R160 (conditions), R164 to R169 (link), R173 (mode controller). -/

namespace Sys2Proof.Machine

/-- A frame with nothing in it. -/
def LaneFrame.empty : LaneFrame := ⟨0, 0, false, false, false⟩

/-- A lane after any reset (R17). -/
def Lane.reset : Lane where
  offset := 0
  startSum := 0
  filter1 := 0
  filter2 := 0
  arm := .disarmed
  below := 0
  above := 0
  transit := none
  envelope := 0
  clipQuiet := 0
  openHold := 0
  openRelease := 0
  frame := .empty

/-- A capture unit after any reset, or after a commit, under a profile (R37, R39). -/
def Capture.reset (p : Profile) : Capture where
  ring := []
  guard := 0
  age := 0
  pmin := p.pmin
  pmax := p.pmax
  lastEstimate := none
  handed := none
  delivered := none

/-- A detector after any reset (R59). -/
def Detector.reset : Detector where
  gate := .closed
  rearmWait := false
  dipTimer := 0
  refractory := 0
  floor := []
  phase := .idle
  peak := 0
  remaining := 0
  clipMark := false
  velocity := none
  judgementDue := false
  completion := none

/-- A voice after any reset (R97). -/
def Voice.reset : Voice where
  state := .quiet
  damp := false
  openCause := false
  serial := 0
  baseNote := none
  currentPitch := none
  startKind := none
  velocity := none
  carried := 0
  held := none
  candidate := none
  stallTimer := none
  stallFresh := false
  lost := false
  lostTimer := none
  acqTimer := none
  acqExpired := false
  reported := false
  fix := false

/-- No bleed window is running (R102, R108). -/
def Bleed.absent : Bleed := ⟨none, false⟩

/-- A reporter whose voice holds no note (R110, R114, R115, R124). -/
def Reporter.absent : Reporter := ⟨none, none, none, false, false⟩

/-- A gate line after any reset (R124). -/
def GateLine.reset : GateLine := ⟨false, false, none, false, false⟩

/-- A condition's markers, all clear (R160). -/
def Markers.clear : Markers := ⟨false, false, false⟩

/-- Everything the part keeps for one string, after a reset that leaves it these profiles and this
pending flag (R151). -/
def Channel.reset (active staged : Profile) (pendingFlag : Bool) : Channel where
  active := active
  staged := staged
  pendingFlag := pendingFlag
  lane := .reset
  capture := .reset active
  detector := .reset
  voice := .reset
  bleed := .absent
  reporter := .absent
  gateLine := .reset
  clip := .clear
  openMarks := .clear

/-- A string after a power-on, RESET_N or supply-drop reset: its default profile, committed
(R151). -/
def Channel.default (n : Str) : Channel :=
  .reset (defaultProfile n) (defaultProfile n) false

/-- A string after a RESTART, which keeps its profiles and its pending flag (R151). -/
def Channel.restarted (c : Channel) : Channel := .reset c.active c.staged c.pendingFlag

/-- The event queue after any reset (R137). -/
def Queue.reset : Queue := ⟨[], 0, false, true⟩

/-- The mute logic after any reset (R97); the pin's level is the world's and stands. -/
def Mute.reset (pin : Bool) : Mute := ⟨false, none, false, false, false, pin⟩

/-- The link after any reset, with the straps read at it (R161, R164, R165, R166, R167, R169). The inter-byte
timer, to which the spec gives no value in HUNT, is 0 (DESIGN CHOICE, log 37). -/
def Link.reset (straps : Straps) : Link where
  rxState := .hunt
  rxLength := 0
  rxBody := []
  rxTimer := 0
  buffer := []
  slot := none
  tx := .idle
  overrun := false
  frameErr := false
  straps := straps

/-- The mode controller after any reset (R173, R174, R176), with its reset cause record and the
level of RESET_N. -/
def Modes.reset (causes : Causes) (resetPinLow : Bool) : Modes where
  mode := .start
  causes := causes
  settle := 0
  idle := 0
  idleDue := false
  wakeDue := false
  restart := .none
  resetPinLow := resetPinLow

/-- The reset cause record after a power-on: exactly POWER (R174). -/
def Causes.powerOnly : Causes := ⟨true, false, false, false⟩

end Sys2Proof.Machine
end

