-- ==== Sys2Proof/Machine/State.lean ====
section
/-! DEFINITION. The state of the part, the two ways a step could stop, and the state after reset.
State is plain data: every piece of state the spec gives the part (INVENTORY.md lists each with
its rule) and the queue of steps the sender has put before it. -/

namespace Sys2Proof.Machine

/-- The state of the part. -/
structure State where
  /-- What the part keeps for each string. -/
  channels : Eight Channel
  /-- The global settings record (R149). -/
  globals : Globals
  /-- The LOCK flag (R150). -/
  lock : Bool
  /-- The Capture Timebase (R18): the stamp of the latest sample of RUN. -/
  timebase : Stamp
  /-- A sample has been stamped since the reset: the first is stamped 0, each later one 128 more
  (R18). -/
  timebaseRunning : Bool
  /-- Samples taken of the frame in progress; at 8 the frame has ended and its FRAME_END is not yet
  taken (R1). -/
  frameSamples : Nat
  /-- The event queue (R126). -/
  queue : Queue
  /-- The BACKLOG markers (R136, R155). -/
  backlog : Markers
  /-- The mute logic (R88, R89). -/
  mute : Mute
  /-- The link controller. -/
  link : Link
  /-- The mode controller. -/
  modes : Modes
  /-- The steps that wait to be taken, first in, first out (the model's own; no state of the
  spec). -/
  pending : List Instr
  deriving DecidableEq, Repr

/-- Reasons for which the part stops with a fault: none. The spec gives every step an effect in
every state; a malformed frame, a refused command and a refused record are flags and replies
(R133, R166, R169), not stops. Safe: there is nothing that could hide behind one. -/
inductive Fault where
  deriving DecidableEq, Repr

/-- Reasons for which the model gives a step no meaning. -/
inductive Refusal where
  /-- Raised by `exec` alone, for a step that has no meaning yet. Every step has one, so nothing
  raises it. Safe: it stops. -/
  | notModelled (mnemonic : String)
  deriving DecidableEq, Repr

/-- The part right after power-on (R174): the default profiles and settings, the mode START, the
reset cause record exactly POWER, nothing pending. The straps are taken as both low, the pins as
RESET_N released and DAMP deasserted (DESIGN CHOICE, log 5 and log 14: they are inputs). -/
def State.reset : State where
  channels := .of Channel.default
  globals := defaultGlobals
  lock := false
  timebase := 0
  timebaseRunning := false
  frameSamples := 0
  queue := .reset
  backlog := .clear
  mute := .reset false
  link := .reset ⟨false, false⟩
  modes := .reset .powerOnly false
  pending := []

end Sys2Proof.Machine
end

