-- ==== Sys2Proof/Machine/Ops.lean ====
section
/-! DEFINITION. The named operations over the part's registers: reaching one string, going through
the strings in an order, the forms a voice's context takes as it enters a state, and what clears a
lane, a ring or a detector. -/

namespace Sys2Proof.Machine

/-! ## Reaching the strings -/

/-- What the part keeps for one string. -/
def State.channel (s : State) (n : Str) : Channel := s.channels.get n

/-- One string changed. -/
def State.mod (s : State) (n : Str) (f : Channel → Channel) : State :=
  { s with channels := s.channels.set n (f (s.channels.get n)) }

/-- Every string changed in the same way at one instant. -/
def State.modAll (s : State) (f : Channel → Channel) : State :=
  { s with channels := .of fun n => f (s.channels.get n) }

/-- An operation made on the strings of a list, one after another. -/
def forStrings (op : Str → State → State) : List Str → State → State
  | [], s => s
  | n :: rest, s => forStrings op rest (op n s)

/-- The eight strings in a given order: the strings of the list, each where it stands first, and
then those it leaves out, ascending. -/
def Str.inOrder (order : List Str) : List Str :=
  order.eraseDups ++ Str.all.filter fun n => !order.contains n

/-- Whether some string meets a condition. -/
def State.anyString (s : State) (test : Channel → Bool) : Bool :=
  Str.all.any fun n => test (s.channel n)

/-- While RESET_N is held low the part is held in reset and nothing happens in it (R174). -/
def State.live (s : State) (op : State → State) : State :=
  if s.modes.resetPinLow then s else op s

/-- The eighth sample of the frame is taken and its FRAME_END is not: a timer started now starts at
the frame end and reads 0 there (R62, R115, R121). -/
def State.atFrameEnd (s : State) : Bool := s.frameSamples == 8

/-! ## The lane -/

/-- The crossing path cleared: both sections 0, the detector DISARMED, both counts 0, no latest
transit (R5, R15). -/
def Lane.clearCrossing (l : Lane) : Lane :=
  { l with filter1 := 0, filter2 := 0, arm := .disarmed, below := 0, above := 0, transit := none }

/-! ## The capture unit -/

/-- A restart request taken: the ring emptied, the guard count loaded with the attack guard and
the extension (R35). -/
def Capture.restart (p : Profile) (extension : Nat) (u : Capture) : Capture :=
  { u with ring := [], age := 0, guard := p.attackGuard + extension }

/-- Doze entry: the ring emptied, guard and age 0; a crossing not yet taken is never handed on and
no estimate reaches the voice (R38). -/
def Capture.doze (u : Capture) : Capture :=
  { u with ring := [], guard := 0, age := 0, handed := none, delivered := none }

/-! ## The detector -/

/-- The velocity tracker set IDLE, its velocity value absent (R51, R53, R56). -/
def Detector.idleTracker (d : Detector) : Detector :=
  { d with phase := .idle, peak := 0, remaining := 0, clipMark := false, velocity := none,
           completion := none }

/-- What every commit and every forced close does: timers 0, floor window empty, tracker IDLE
(R47, R48, R49, R56, R57). -/
def Detector.quieted (d : Detector) : Detector :=
  { d.idleTracker with dipTimer := 0, refractory := 0, floor := [] }

/-- Doze entry: the gate forced CLOSED, the re-arm wait cleared, and the frame, if not yet judged,
not judged (R44, R57). -/
def Detector.doze (d : Detector) : Detector :=
  { d.quieted with gate := .closed, rearmWait := false, judgementDue := false }

/-! ## The voice -/

/-- The context as it enters a state: only the state, the mute causes, the serial, the reported
flag and the fix reservation stand; every other field is absent or clear (section 4.1, R65, R84,
R85). -/
def Voice.entering (st : VoiceState) (v : Voice) : Voice :=
  { Voice.reset with state := st, damp := v.damp, openCause := v.openCause, serial := v.serial,
                     reported := v.reported, fix := v.fix }

/-- Whether the set of mute causes holds one. -/
def Voice.hasCause (v : Voice) : Bool := v.damp || v.openCause

/-- The voice enters a state that holds no note: its context takes that state's form, its bleed
window timer becomes absent (R102, R103) and its reporter's items become absent (R110, R114,
R115). -/
def Channel.entering (st : VoiceState) (c : Channel) : Channel :=
  { c with voice := c.voice.entering st, bleed := .absent, reporter := .absent }

/-- The voice enters ACQUIRING with its acquisition timer at 0 and the given velocities. -/
def Channel.acquiring (velocity : Option Nat) (carried : Nat) (c : Channel) : Channel :=
  let t := c.entering .acquiring
  { t with voice := { t.voice with acqTimer := some 0, velocity := velocity, carried := carried } }

/-- The voice enters SUSPECT, or stays in it through a RESTRIKE, and the bleed window starts at 0
(R102). -/
def Channel.suspecting (velocity : Option Nat) (carried : Nat) (c : Channel) : Channel :=
  let t := c.entering .suspect
  { t with voice := { t.voice with velocity := velocity, carried := carried },
           bleed := { timer := some 0, stepDue := false } }

/-- The voice's context changed. -/
def Channel.modVoice (f : Voice → Voice) (c : Channel) : Channel := { c with voice := f c.voice }

end Sys2Proof.Machine
end

