-- ==== Sys2Proof/Machine/Flags.lean ====
section
/-! DEFINITION. The flags and markers: DROPPED (R133), the BACKLOG measure and its markers (R136,
R155), the CLIP and OPEN markers (R152 to R154), and the status summary (R170). -/

namespace Sys2Proof.Machine

/-! ## The queue's account -/

/-- The commitment: occupancy plus the reservation total (R127). -/
def Queue.commitment (q : Queue) : Nat := q.records.length + q.reserved

/-- The list with a record at its newest end (R126). -/
def Queue.push (q : Queue) (r : Record) : Queue := { q with records := q.records ++ [r] }

/-- Whether the commitment leaves room for `k` more (R128, R130, R131). -/
def State.hasRoom (s : State) (k : Nat) : Bool := s.queue.commitment + k ≤ queueCapacity

/-- A refusal sets DROPPED (R133). -/
def State.refuse (s : State) : State := { s with queue := { s.queue with dropped := true } }

/-- A record joins the newest end. -/
def State.append (r : Record) (s : State) : State := { s with queue := s.queue.push r }

/-! ## BACKLOG -/

/-- Whether the commitment is at or above the high-water setting (R136). -/
def State.backlogNow (s : State) : Bool := s.globals.highWater ≤ s.queue.commitment

/-- The queue reports BACKLOG active: the active marker is set, and the latched marker with it; if
it latches now and the kind is in the report mask, a CONDITION is offered (R152, R153, R155). -/
def activateBacklog (s : State) : State :=
  let marked := { s with backlog := { s.backlog with active := true, latched := true } }
  if s.backlog.latched || !s.globals.reportMask.backlog then marked
  else if marked.hasRoom 1 then
    let t := marked.append (.condition .backlog true)
    { t with backlog := { t.backlog with endMark := true } }
  else marked.refuse

/-- The queue reports BACKLOG inactive: the active marker is cleared, and where the end mark is set
a CONDITION that it ended is offered under the report mask; if that record brings the commitment
back to the high-water setting, BACKLOG is active again (R154, R155). -/
def deactivateBacklog (s : State) : State :=
  let cleared := { s with backlog := { s.backlog with active := false, endMark := false } }
  if !s.backlog.endMark || !s.globals.reportMask.backlog then cleared
  else if cleared.hasRoom 1 then
    let t := cleared.append (.condition .backlog false)
    if t.backlogNow then activateBacklog t else t
  else cleared.refuse

/-- The comparison made within each event that changes the commitment or the high-water setting
(R136): a changed result goes to the Condition Monitor. -/
def updateBacklog (s : State) : State :=
  if s.backlogNow then (if s.backlog.active then s else activateBacklog s)
  else (if s.backlog.active then deactivateBacklog s else s)

/-! ## CLIP and OPEN -/

/-- The markers of one of a string's two conditions. -/
def Channel.markers (k : StringKind) (c : Channel) : Markers :=
  match k with
  | .clip => c.clip
  | .openKind => c.openMarks

/-- The markers of one of a string's two conditions replaced. -/
def Channel.setMarkers (k : StringKind) (m : Markers) (c : Channel) : Channel :=
  match k with
  | .clip => { c with clip := m }
  | .openKind => { c with openMarks := m }

/-- Whether the report mask holds a string condition. -/
def KindSet.has (mask : KindSet) : StringKind → Bool
  | .clip => mask.clip
  | .openKind => mask.openKind

/-- A CONDITION or a NOTICE offered: admitted if the commitment leaves room for it, otherwise
refused, which sets DROPPED (R131). -/
def offerPlain (r : Record) (s : State) : State :=
  if s.hasRoom 1 then updateBacklog (s.append r) else s.refuse

/-- A detector reports its condition active: the active marker is set, and the latched marker with
it; if it latches now and its kind is in the report mask, a CONDITION is offered, and its
admission sets the end mark (R152, R153). -/
def raiseCondition (k : StringKind) (n : Str) (s : State) : State :=
  let m := (s.channel n).markers k
  if m.active then s
  else
    let marked := s.mod n (Channel.setMarkers k { m with active := true, latched := true })
    if m.latched || !s.globals.reportMask.has k then marked
    else if marked.hasRoom 1 then
      (offerPlain (.condition (.string k n) true) marked).mod n
        (Channel.setMarkers k ⟨true, true, true⟩)
    else marked.refuse

/-- A condition's active marker cleared (R152). -/
def clearActive (k : StringKind) (n : Str) (s : State) : State :=
  s.mod n fun c => c.setMarkers k { c.markers k with active := false }

/-- The end of a condition's first episode: the end mark, if set, is cleared, and under the report
mask a CONDITION that it ended is offered (R154). -/
def reportEnd (k : StringKind) (n : Str) (s : State) : State :=
  if ((s.channel n).markers k).endMark then
    let t := s.mod n fun c => c.setMarkers k { c.markers k with endMark := false }
    if s.globals.reportMask.has k then offerPlain (.condition (.string k n) false) t else t
  else s

/-! ## The status summary (R170) -/

/-- A byte from its bits, bit 0 first. -/
def byteOfBits (b0 b1 b2 b3 b4 b5 b6 b7 : Bool) : Byte :=
  BitVec.ofNat 8 (b0.toNat + 2 * b1.toNat + 4 * b2.toNat + 8 * b3.toNat + 16 * b4.toNat
    + 32 * b5.toNat + 64 * b6.toNat + 128 * b7.toNat)

/-- Whether at least one latched marker in the part is set (R160). -/
def State.anyLatched (s : State) : Bool :=
  s.backlog.latched || s.anyString fun c => c.clip.latched || c.openMarks.latched

/-- Byte 0 of the status summary. -/
def State.summary0 (s : State) : Byte :=
  byteOfBits (s.modes.mode == .run) (s.modes.mode == .doze) s.lock s.queue.gateOpen s.mute.inForce
    s.queue.dropped s.link.overrun s.link.frameErr

/-- Byte 1 of the status summary. -/
def State.summary1 (s : State) : Byte :=
  byteOfBits s.anyLatched false false false false false false false

end Sys2Proof.Machine
end

