-- ==== Sys2Proof/Machine/Queue.lean ====
section
/-! DEFINITION. What the event queue does with an offered note record or GLIDE (R128 to R130), with
the account of reservations (R127) and the voice's reported flag and fix reservation (R63). -/

namespace Sys2Proof.Machine

/-- `k` reserved slots added to the total (R127). -/
def State.reserve (k : Nat) (s : State) : State :=
  { s with queue := { s.queue with reserved := s.queue.reserved + k } }

/-- `k` reserved slots taken from the total (R127). -/
def State.unreserve (k : Nat) (s : State) : State :=
  { s with queue := { s.queue with reserved := s.queue.reserved - k } }

/-- Whether a NOTE-ON's start kind is PROVISIONAL or UNPITCHED, which reserves a slot for a
PITCH-FIX (R127). -/
def NoteFlag.mayNeedFix : NoteFlag → Bool
  | .provisional | .unpitched => true
  | .none | .legato | .slid => false

/-- The voice offers a NOTE-ON: its serial advances by 1 first; admitted if the commitment leaves
room for 2, or 3 where a fix is reserved, and then the reported flag is set and the reservations
made; otherwise refused (R63, R128). -/
def offerNoteOn (n : Str) (base velocity : Nat) (offset : Int) (flag : NoteFlag) (s : State) :
    State :=
  let serial := (s.channel n).voice.serial + 1
  let t := s.mod n (.modVoice fun v => { v with serial := serial })
  let room := if flag.mayNeedFix then 3 else 2
  if t.hasRoom room then
    updateBacklog
      (((t.mod n (.modVoice fun v => { v with reported := true, fix := flag.mayNeedFix })).reserve
        (room - 1)).append (.noteOn n serial base velocity offset flag))
  else t.refuse

/-- A voice that ends its note offers a NOTE-OFF if it is reported; the queue admits it, and the
reported flag and the fix reservation are cleared (R63, R129). -/
def offerNoteOff (n : Str) (reason : OffReason) (s : State) : State :=
  let v := (s.channel n).voice
  if v.reported then
    updateBacklog
      (((s.mod n (.modVoice fun v => { v with reported := false, fix := false })).unreserve
        (if v.fix then 2 else 1)).append (.noteOff n v.serial reason))
  else s

/-- A reported voice that holds a fix reservation offers a PITCH-FIX, which the queue admits; the
reservation is cleared (R63, R129). -/
def offerPitchFix (n : Str) (base : Nat) (offset : Int) (s : State) : State :=
  let v := (s.channel n).voice
  if v.reported && v.fix then
    updateBacklog
      (((s.mod n (.modVoice fun v => { v with fix := false })).unreserve 1).append
        (.pitchFix n v.serial base offset))
  else s

/-- A voice that holds a fix reservation releases it without a record (R73, R129). -/
def releaseFix (n : Str) (s : State) : State :=
  if (s.channel n).voice.fix then
    updateBacklog ((s.mod n (.modVoice fun v => { v with fix := false })).unreserve 1)
  else s

/-- Whether a record is a GLIDE for a string. -/
def Record.isGlideOf (n : Str) : Record → Bool
  | .glide m _ _ => m = n
  | .noteOn .. | .noteOff .. | .pitchFix .. | .condition .. | .notice _ => false

/-- Whether a record is a NOTE-ON, NOTE-OFF or PITCH-FIX for a string. -/
def Record.isNoteOf (n : Str) : Record → Bool
  | .noteOn m .. | .noteOff m .. | .pitchFix m .. => m = n
  | .glide .. | .condition .. | .notice _ => false

/-- Whether a NOTE-ON, NOTE-OFF or PITCH-FIX for the string stands behind its GLIDE (R130). -/
def noteBehindGlide (n : Str) : List Record → Bool
  | [] => false
  | r :: rest => if r.isGlideOf n then rest.any (Record.isNoteOf n) else noteBehindGlide n rest

/-- The string's queued GLIDE with its offset replaced, in place (R130). -/
def mergeGlide (n : Str) (offset : Int) (rs : List Record) : List Record :=
  rs.map fun r =>
    match r with
    | .glide m serial old => if m = n then .glide m serial offset else .glide m serial old
    | r => r

/-- What the queue answers to an offered GLIDE. -/
inductive GlideAnswer where
  | merged | admitted | dropped
  deriving DecidableEq, Repr

/-- The table of R130. -/
def glideAnswer (n : Str) (s : State) : GlideAnswer :=
  if s.queue.records.any (Record.isGlideOf n) then
    if noteBehindGlide n s.queue.records then .dropped else .merged
  else if s.hasRoom 1 then .admitted else .dropped

/-- The reporter offers a GLIDE with the voice's serial. Merged or admitted, the offset it carries
becomes the last reported offset; dropped, DROPPED is set and it stands (R113, R130). -/
def offerGlide (n : Str) (offset : Int) (s : State) : State :=
  let told := s.mod n fun c => { c with reporter := { c.reporter with lastReported := some offset } }
  match glideAnswer n s with
  | .merged =>
    { told with queue := { told.queue with records := mergeGlide n offset told.queue.records } }
  | .admitted => updateBacklog (told.append (.glide n (s.channel n).voice.serial offset))
  | .dropped => s.refuse

end Sys2Proof.Machine
end

