-- ==== Sys2Proof/Machine/Glide.lean ====
section
/-! DEFINITION. Glide reporter and gate line (chapter 6): the output pitch, when a report is
considered and what it offers, and the gate line's retrigger drop. -/

namespace Sys2Proof.Machine

/-! ## The reporter -/

/-- The output offset: the output pitch less 64 × the base note, clamped to the bend range (R112);
none where there is no output pitch. -/
def Channel.outputOffset (c : Channel) : Option Int :=
  match c.reporter.output, c.voice.baseNote with
  | some out, some base =>
    some (limitTo (-(64 * (c.active.bendRange : Int))) (64 * (c.active.bendRange : Int))
      (offsetFrom base out))
  | _, _ => none

/-- Whether a voice is reportable (R113). -/
def Channel.reportable (c : Channel) : Bool :=
  c.voice.state == .sounding && c.voice.reported && !c.voice.lost
    && c.voice.startKind != some .unpitched

/-- A report considered at an offset: offered if the voice is reportable and the offset differs
from the last reported one by at least the deadband (R113). -/
def considerReport (n : Str) (offset : Int) (s : State) : State :=
  let c := s.channel n
  if c.reportable && c.active.deadband ≤ distance offset (c.reporter.lastReported.getD 0) then
    offerGlide n offset s
  else s

/-- A report considered at the output offset. -/
def considerOutput (n : Str) (s : State) : State :=
  match (s.channel n).outputOffset with
  | some offset => considerReport n offset s
  | none => s

/-- Under ON-ESTIMATE a report is considered at a full estimate taken as the current pitch
(R116). -/
def reportOnEstimate (n : Str) (s : State) : State :=
  if (s.channel n).active.glideMode == .onEstimate then considerOutput n s else s

/-- The closing report of a rebase, at the edge of the bend range the pitch has left (R117). -/
def closingReport (n : Str) (base pitch : Nat) (s : State) : State :=
  let edge : Int := 64 * (s.channel n).active.bendRange
  considerReport n (if offsetFrom base pitch < 0 then -edge else edge) s

/-- The reporter as a note begins: the output pitch snapped to the current pitch (R111), the last
reported offset that of the NOTE-ON (R114), the schedule at 0 under PERIODIC (R115). -/
def Reporter.begin (mode : GlideMode) (pitch : Option Nat) (offset : Int) (atFrameEnd : Bool) :
    Reporter where
  output := pitch
  lastReported := some offset
  schedule := if mode = .onEstimate then none else some 0
  boundaryDue := false
  fresh := atFrameEnd

/-- The slew step of a frame end (R110). -/
def slewStep (slew current out : Nat) : Nat :=
  if current ≤ out then max current (out - slew) else min current (out + slew)

/-- The output pitch after the slew step of a frame end: under slew 0 it follows the current pitch at
every moment and the frame end moves nothing (R110). -/
def Channel.steppedOutput (c : Channel) : Option Nat :=
  match c.reporter.output, c.voice.currentPitch with
  | some out, some current =>
    some (if c.active.slew = 0 then out else slewStep c.active.slew current out)
  | out, _ => out

/-- The slew step taken (R110). -/
def Channel.slewed (c : Channel) : Channel :=
  { c with reporter := { c.reporter with output := c.steppedOutput } }

/-- Whether the frame end is a boundary: the schedule's count, after rising, reaches the interval
(R115). -/
def Channel.reachesBoundary (c : Channel) : Bool :=
  match c.reporter.schedule, c.active.glideMode with
  | some count, .periodic interval => !c.reporter.fresh && interval ≤ count + 1
  | _, _ => false

/-- The schedule's count raised at a frame end that is no boundary; a count that was started at the
instant of this frame end stands (R115). -/
def Reporter.count (r : Reporter) : Reporter :=
  { r with schedule := if r.fresh then r.schedule else r.schedule.map (· + 1), fresh := false }

/-- The reporter's frame end. At a boundary the count returns to 0 and the rest of the reporter's event,
its slew step and its check, is GLIDE_BOUNDARY's; at any other frame end the slew step is taken and the
count rises (R110, R115; log 29). -/
def Channel.reporterFrameEnd (c : Channel) : Channel :=
  if c.reachesBoundary then
    { c with reporter := { c.reporter with schedule := some 0, boundaryDue := true } }
  else { c.slewed with reporter := c.slewed.reporter.count }

/-- GLIDE_BOUNDARY: the reporter's event at a boundary. The slew step of this frame end is taken, and
then a report is considered at the output pitch as the step leaves it (R110, R115; log 29). -/
def takeBoundary (n : Str) (s : State) : State :=
  if (s.channel n).reporter.boundaryDue then
    considerOutput n
      (s.mod n fun c =>
        { c with reporter := { c.slewed.reporter with boundaryDue := false } })
  else s

/-! ## The gate line -/

/-- The line as a voice leaves SOUNDING for a reason of R119: LOW, and the retrigger drop started,
or restarted, at 0. -/
def lowerLine (n : Str) (s : State) : State :=
  s.mod n fun c =>
    { c with gateLine := { c.gateLine with high := false, drop := some 0, checkDue := false,
                                           fresh := s.atFrameEnd } }

/-- The line as a note begins from acquisition: HIGH at once if no drop is running (R120). -/
def raiseLine (n : Str) (s : State) : State :=
  s.mod n fun c =>
    if c.gateLine.drop.isNone then { c with gateLine := { c.gateLine with high := true } } else c

/-- The drop's rise at a frame end (R121); the comparison is then owed. -/
def GateLine.frameEnd (g : GateLine) : GateLine :=
  match g.drop with
  | none => g
  | some t =>
    if g.fresh then { g with fresh := false } else { g with drop := some (t + 1), checkDue := true }

/-- The comparison of a frame end, made once: a timer that is at least the retrigger drop in force
becomes absent, and the line rises if the voice is SOUNDING; a timer below it runs on (R121). -/
def Channel.compareDrop (c : Channel) : GateLine :=
  let compared := { c.gateLine with checkDue := false }
  match c.gateLine.drop with
  | some t =>
    if c.active.retriggerDrop ≤ t then
      { compared with high := c.voice.state == .sounding, drop := none }
    else compared
  | none => compared

/-- RETRIGGER_DROP_EXPIRY: the comparison that this frame end still owes is made with the retrigger drop
in force, and not again before the next frame end (R121). -/
def expireDrop (n : Str) (s : State) : State :=
  if (s.channel n).gateLine.checkDue then s.mod n fun c => { c with gateLine := c.compareDrop } else s

/-- Doze entry: the line LOW and no drop running (R123). -/
def GateLine.doze (g : GateLine) : GateLine :=
  { g with high := false, drop := none, checkDue := false, fresh := false }

/-- GLIDE_BOUNDARY (R115). -/
def execGlideBoundary (n : Str) (s : State) : Host.Outcome State Fault Refusal :=
  .next (s.live (takeBoundary n))

/-- RETRIGGER_DROP_EXPIRY (R121). -/
def execRetriggerDropExpiry (n : Str) (s : State) : Host.Outcome State Fault Refusal :=
  .next (s.live (expireDrop n))

end Sys2Proof.Machine
end

