-- ==== Sys2Proof/Machine/Store.lean ====
section
/-! DEFINITION. A commit (R145) and a voice's entry to QUIET (R65, R144): what every per-string
block does when the staged profile becomes the active one. -/

namespace Sys2Proof.Machine

/-- The offset estimate at a change of gain code: multiplied by 2^(h − g), rounded and limited
(R16). -/
def rescaleOffset (old new : Nat) (offset : Int) : Int :=
  limitTo (-2048) 2047
    (if old ≤ new then offset * 2 ^ (new - old) else roundHalfAway offset (2 ^ (old - new)))

/-- The lane at a commit (R16). The frame in progress stands, also where the commit enables the string:
its samples of before the commit count with the rest at its end (DESIGN CHOICE, log 30). -/
def Lane.commit (old new : Profile) (l : Lane) : Lane :=
  let kept := { l with arm := .disarmed, below := 0, above := 0, transit := none,
                       offset := rescaleOffset old.gainCode new.gainCode l.offset }
  if new.enabled && old.enabled then kept
  else { kept.clearCrossing with clipQuiet := 0, openHold := 0, openRelease := 0 }

/-- The capture unit at a commit (R21, R37): a crossing or an estimate of this instant not yet
taken is still to be taken, unless the commit disables the string (R40). -/
def Capture.commit (new : Profile) (u : Capture) : Capture :=
  if new.enabled then { Capture.reset new with handed := u.handed, delivered := u.delivered }
  else .reset new

/-- The detector at a commit (R56, R58). -/
def Detector.commit (new : Profile) (d : Detector) : Detector :=
  if new.enabled then d.quieted
  else { d.quieted with rearmWait := false, judgementDue := false }

/-- The commit of the staged profile (R145): the active profile becomes a copy of it, the pending
flag is cleared, and every block of the string takes it. `damped`: the damp mute is in force. A
commit that enables the string under the damp mute adds DAMP to its voice, which is QUIET (R89).
One that disables the string removes every mute cause and leaves the voice QUIET (R87, R89, R93),
the line LOW with no drop (R122) and the markers clear (R159). -/
def Channel.commit (damped : Bool) (c : Channel) : Channel :=
  let taken := { c with active := c.staged, pendingFlag := false,
                        lane := c.lane.commit c.active c.staged,
                        capture := c.capture.commit c.staged,
                        detector := c.detector.commit c.staged }
  if c.staged.enabled then
    if !c.active.enabled && damped then
      { taken.entering .muted with voice := { c.voice.entering .muted with damp := true } }
    else taken
  else
    { taken.entering .quiet with
        voice := { c.voice.entering .quiet with damp := false, openCause := false },
        gateLine := c.gateLine.doze, clip := .clear, openMarks := .clear }

/-- A string's commit made in the part. -/
def commitProfile (n : Str) (s : State) : State := s.mod n (Channel.commit s.mute.inForce)

/-- The voice enters QUIET; a pending profile commits at the entry (R65, R144). -/
def enterQuiet (n : Str) (s : State) : State :=
  let t := s.mod n (.entering .quiet)
  if (s.channel n).pendingFlag then commitProfile n t else t

end Sys2Proof.Machine
end

