-- ==== Sys2Proof/Machine/Voice.lean ====
section
/-! DEFINITION. The voice (chapter 4): beginning and ending a note, what an estimate means in each
state, the velocity, and the voice's own timers. -/

namespace Sys2Proof.Machine

/-! ## Ending and beginning a note -/

/-- A voice that leaves SOUNDING ends its note: NOTE-OFF if reported (R63), and the line falls with
a retrigger drop (R119). The caller moves the voice to the state that follows. -/
def endNote (n : Str) (reason : OffReason) (s : State) : State :=
  lowerLine n (offerNoteOff n reason s)

/-- A note begins: the NOTE-ON is offered (R63), the voice is SOUNDING with its stall timer at 0, no
LOST and no candidate (R70, R78), and the reporter starts afresh (R111, R114, R115). -/
def beginNote (n : Str) (base : Nat) (pitch : Option Nat) (offset : Int) (kind : StartKind)
    (flag : NoteFlag) (velocity : Nat) (s : State) : State :=
  (offerNoteOn n base velocity offset flag s).mod n fun c =>
    { c with
      voice :=
        { c.voice.entering .sounding with
          baseNote := some base, currentPitch := pitch, startKind := some kind,
          velocity := some velocity, stallTimer := some 0, stallFresh := s.atFrameEnd },
      bleed := .absent,
      reporter := .begin c.active.glideMode pitch offset s.atFrameEnd }

/-- An acquiring voice that knows its pitch begins its note under it (R70). -/
def beginPitched (n : Str) (pitch : Nat) (kind : StartKind) (velocity : Nat) (s : State) : State :=
  raiseLine n
    (beginNote n (noteOf pitch) (some pitch) (offsetFrom (noteOf pitch) pitch) kind
      (if kind = .provisional then .provisional else .none) velocity s)

/-- An acquiring voice whose limit has expired begins an UNPITCHED note on its open note (R71). -/
def beginUnpitched (n : Str) (velocity : Nat) (s : State) : State :=
  raiseLine n
    (beginNote n (s.channel n).active.openNote none 0 .unpitched .unpitched velocity s)

/-- An ACQUIRING voice begins its note at the first event after which velocity is present and the
pitch is known, or the limit has expired (R70, R71). -/
def tryBegin (n : Str) (s : State) : State :=
  let v := (s.channel n).voice
  if v.state = .acquiring then
    match v.velocity, v.currentPitch with
    | some velocity, some pitch => beginPitched n pitch (v.startKind.getD .normal) velocity s
    | some velocity, none => if v.acqExpired then beginUnpitched n velocity s else s
    | none, _ => s
  else s

/-! ## Velocity (R64) -/

/-- A peak as a velocity: round(127 × peak / reference), halves up, limited to 1 to 127 (R54). -/
def velocityOf (reference peak : Nat) : Nat := max 1 (min 127 (roundHalfUp (127 * peak) reference))

/-- A prior peak as a velocity; 0 converts to 0 (R64). -/
def carriedOf (reference peak : Nat) : Nat := if peak = 0 then 0 else velocityOf reference peak

/-- A RESTRIKE's prior peak folded into the carried velocity (R64). -/
def Voice.folded (reference prior : Nat) (v : Voice) : Nat :=
  max v.carried (max (v.velocity.getD 0) (carriedOf reference prior))

/-- A velocity completion: taken in SUSPECT and ACQUIRING while velocity is absent, as the larger of
the value and the carried velocity; ignored otherwise (R64). In ACQUIRING the note may begin. -/
def voiceCompletion (n : Str) (value : Nat) (s : State) : State :=
  let v := (s.channel n).voice
  if (v.state = .suspect || v.state = .acquiring) && v.velocity.isNone then
    tryBegin n (s.mod n (.modVoice fun v => { v with velocity := some (max value v.carried) }))
  else s

/-! ## Estimates in ACQUIRING (R69) -/

/-- What an ACQUIRING voice learns from an estimate; the acquisition expired mark is cleared when
the pitch becomes known (R69, R71). -/
def Voice.learn (policy : StartPolicy) (e : Estimate) (v : Voice) : Voice :=
  match e.kind, policy with
  | .full, _ =>
    { v with currentPitch := some e.pitch, startKind := some .normal, acqExpired := false }
  | .provisional, .fast =>
    { v with currentPitch := some e.pitch, acqExpired := false,
             startKind := if v.startKind = some .normal then some .normal else some .provisional }
  | .provisional, .confirmed => v

/-- An estimate learned in ACQUIRING, under the start policy of the active profile. -/
def learnEstimate (n : Str) (e : Estimate) (s : State) : State :=
  s.mod n fun c => c.modVoice (.learn c.active.startPolicy e)

/-- An estimate taken in ACQUIRING. -/
def estimateAcquiring (n : Str) (e : Estimate) (s : State) : State :=
  tryBegin n (learnEstimate n e s)

/-! ## Full estimates in SOUNDING (R73 to R79) -/

/-- A full estimate reaches the note in force: the stall timer at 0, LOST and the lost timer cleared
(R73, R74). -/
def Voice.confirmPitch (atFrameEnd : Bool) (v : Voice) : Voice :=
  { v with stallTimer := some 0, stallFresh := atFrameEnd, lost := false, lostTimer := none }

/-- The current pitch changed; with slew 0 the output pitch changes with it (R110). -/
def Channel.setCurrent (pitch : Nat) (c : Channel) : Channel :=
  { c with voice := { c.voice with currentPitch := some pitch, candidate := none },
           reporter := if c.active.slew = 0 then { c.reporter with output := some pitch }
                       else c.reporter }

/-- A full estimate settles a PROVISIONAL or UNPITCHED start: a fix, or a confirmation (R73). The
output pitch snaps (R111), and the last reported offset is set at a fix and kept at a confirmation
(R114), which under ON-ESTIMATE is followed by a report (R116): the queue takes the release of the fix
reservation before the report, an order the spec leaves open (DESIGN CHOICE, log 31). -/
def settleStart (n : Str) (pitch : Nat) (s : State) : State :=
  let v := (s.channel n).voice
  let b := noteOf pitch
  let settled := s.mod n fun c =>
    { c with voice := { c.voice.confirmPitch s.atFrameEnd with
                        baseNote := some b, currentPitch := some pitch, startKind := some .normal },
             reporter := { c.reporter with output := some pitch } }
  if v.startKind = some .unpitched || v.baseNote ≠ some b then
    offerPitchFix n b (offsetFrom b pitch)
      (settled.mod n fun c =>
        { c with reporter := { c.reporter with lastReported := some (offsetFrom b pitch) } })
  else reportOnEstimate n (releaseFix n settled)

/-- The note in force ends and the next begins with no new pick: a legato step (R78) or a rebase
(R79). The velocity is inherited and the line is left as it is (R119). -/
def nextNote (n : Str) (pitch : Nat) (reason : OffReason) (flag : NoteFlag) (s : State) : State :=
  let b := noteOf pitch
  beginNote n b (some pitch) (offsetFrom b pitch) .normal flag
    ((s.channel n).voice.velocity.getD 1) (offerNoteOff n reason s)

/-- The bend test (R74): beyond the bend range a rebase is made, with its closing report first
(R79, R117); within it the estimate may bring a report (R116). -/
def bendTest (n : Str) (pitch : Nat) (s : State) : State :=
  let c := s.channel n
  let base := c.voice.baseNote.getD 0
  if 64 * c.active.bendRange < distance pitch (64 * base) then
    nextNote n pitch .slid .slid (closingReport n base pitch s)
  else reportOnEstimate n s

/-- A confirmed candidate: a legato step, unless its note is the base note (R78). -/
def confirmCandidate (n : Str) (pitch : Nat) (s : State) : State :=
  let c := s.channel n
  if c.voice.baseNote = some (noteOf pitch) then
    let t := s.mod n (.setCurrent pitch)
    if c.active.legatoPolicy = .split then bendTest n pitch t else reportOnEstimate n t
  else nextNote n pitch .legato .legato s

/-- The candidate after an estimate (R74): its count rises if the estimate lies within the candidate
tolerance of it; otherwise the estimate is the candidate, with count 1. -/
def Channel.nextCandidate (pitch : Nat) (c : Channel) : Candidate :=
  match c.voice.candidate with
  | some held =>
    if distance pitch held.pitch ≤ 16 * c.active.toleranceCode then
      { held with count := held.count + 1 }
    else ⟨pitch, 1⟩
  | none => ⟨pitch, 1⟩

/-- The candidate test (R74): the candidate is confirmed when its count reaches the step hold. -/
def candidateTest (n : Str) (pitch : Nat) (s : State) : State :=
  let c := s.channel n
  let next := c.nextCandidate pitch
  let t := s.mod n (.modVoice fun v => { v with candidate := some next })
  if c.active.stepHold ≤ next.count then confirmCandidate n pitch t else t

/-- A full estimate read under the legato policy by a NORMAL sounding voice (R74 to R77). -/
def readEstimate (n : Str) (pitch : Nat) (s : State) : State :=
  let c := s.channel n
  let t := s.mod n (.modVoice (.confirmPitch s.atFrameEnd))
  match c.active.legatoPolicy with
  | .step =>
    if distance pitch (64 * (c.voice.baseNote.getD 0 : Nat)) < c.active.stepThreshold then
      reportOnEstimate n (t.mod n (.setCurrent pitch))
    else candidateTest n pitch t
  | .glide => bendTest n pitch (t.mod n (.setCurrent pitch))
  | .split =>
    if distance pitch (c.voice.currentPitch.getD pitch) < c.active.stepThreshold then
      bendTest n pitch (t.mod n (.setCurrent pitch))
    else candidateTest n pitch t

/-- An estimate taken in SOUNDING: a PROVISIONAL one is ignored; a FULL one settles a start or is
read under the legato policy (R73, R74). -/
def estimateSounding (n : Str) (e : Estimate) (s : State) : State :=
  match e.kind with
  | .provisional => s
  | .full =>
    if (s.channel n).voice.startKind = some .normal then readEstimate n e.pitch s
    else settleStart n e.pitch s

/-- An ESTIMATE reaches the voice (R65, R66, R69, R73, R84, R86). -/
def voiceEstimate (n : Str) (e : Estimate) (s : State) : State :=
  match (s.channel n).voice.state with
  | .suspect => s.mod n (.modVoice fun v => { v with held := some e })
  | .acquiring => estimateAcquiring n e s
  | .sounding => estimateSounding n e s
  | .quiet | .silent | .muted => s

/-! ## RELEASE (R68, R72, R81, R84, R86) -/

/-- A RELEASE reaches the voice. -/
def voiceRelease (n : Str) (s : State) : State :=
  match (s.channel n).voice.state with
  | .sounding => enterQuiet n (endNote n .release s)
  | .suspect | .acquiring | .silent => enterQuiet n s
  | .quiet | .muted => s

/-! ## The voice's timers -/

/-- A timer's rise at a frame end, up to its limit (R62, R71, R82, R83). -/
def tick (limit t : Nat) : Nat := min limit (t + 1)

/-- The voice's timers at a frame end in RUN (R62): the acquisition timer up to its limit (R71), the
stall timer while LOST is clear (R82), the lost timer while LOST (R83). -/
def Channel.voiceFrameEnd (c : Channel) : Channel :=
  let v := c.voice
  { c with voice :=
    { v with
      acqTimer := if v.state = .acquiring then v.acqTimer.map (tick c.active.acquisitionLimit)
                  else v.acqTimer,
      stallTimer := if v.state = .sounding && !v.lost && !v.stallFresh then
                      v.stallTimer.map (tick (stallTime c.capture.pmax))
                    else v.stallTimer,
      stallFresh := false,
      lostTimer := if v.state = .sounding && v.lost then v.lostTimer.map (tick c.active.lostLimit)
                   else v.lostTimer } }

/-- ACQUISITION_EXPIRY: the acquisition timer stands at its limit. If the pitch is not known, the
start kind is UNPITCHED and the expired mark is set, and the note begins if velocity is present
(R71). -/
def expireAcquisition (n : Str) (s : State) : State :=
  let c := s.channel n
  if c.voice.state = .acquiring && c.voice.acqTimer = some c.active.acquisitionLimit
      && c.voice.currentPitch.isNone then
    tryBegin n
      (s.mod n (.modVoice fun v => { v with acqExpired := true, startKind := some .unpitched }))
  else s

/-- STALL_EXPIRY: the stall timer stands at the stall time, LOST is set and the lost timer starts
(R82). -/
def expireStall (n : Str) (s : State) : State :=
  let c := s.channel n
  if c.voice.state = .sounding && !c.voice.lost
      && c.voice.stallTimer = some (stallTime c.capture.pmax) then
    s.mod n (.modVoice fun v => { v with lost := true, lostTimer := some 0 })
  else s

/-- LOST_LIMIT_EXPIRY: the lost timer stands at the lost limit; the note ends with LOST and the voice
is SILENT (R83). -/
def expireLost (n : Str) (s : State) : State :=
  let c := s.channel n
  if c.voice.state = .sounding && c.voice.lost && c.voice.lostTimer = some c.active.lostLimit then
    (endNote n .lost s).mod n (.entering .silent)
  else s

/-- ACQUISITION_EXPIRY (R71). -/
def execAcquisitionExpiry (n : Str) (s : State) : Host.Outcome State Fault Refusal :=
  .next (s.live (expireAcquisition n))

/-- STALL_EXPIRY (R82). -/
def execStallExpiry (n : Str) (s : State) : Host.Outcome State Fault Refusal :=
  .next (s.live (expireStall n))

/-- LOST_LIMIT_EXPIRY (R83). -/
def execLostLimitExpiry (n : Str) (s : State) : Host.Outcome State Fault Refusal :=
  .next (s.live (expireLost n))

end Sys2Proof.Machine
end

