-- ==== Sys2Proof/Machine/Judgement.lean ====
section
/-! DEFINITION. How a judgement of the articulation detector reads a frame's envelope (R42 to R52), and
what it is about to bring the voice. -/

namespace Sys2Proof.Machine

/-- Steps 1 and 2 of a judgement: a refractory timer above 0 falls by 1, and the dip timer of a DIP
gate rises by 1 (R42, R48, R49). The frame is then judged. -/
def Detector.tick (d : Detector) : Detector :=
  { d with judgementDue := false, refractory := d.refractory - 1,
           dipTimer := if d.gate = .dip then d.dipTimer + 1 else d.dipTimer }

/-- What step 3 of a judgement finds. -/
inductive Verdict where
  | stays
  | clearsWait
  | onset
  | entersDip
  | surge
  | flutter
  | restrike
  | release
  | releaseOnset
  deriving DecidableEq, Repr

/-- The lowest of the `w` newest levels of a floor window (R46). -/
def floorOf (w : Nat) (levels : List Nat) : Nat :=
  match levels.drop (levels.length - w) with
  | [] => 0
  | x :: rest => rest.foldl min x

/-- The surge test (R46), on the detector after step 1. -/
def Channel.surges (c : Channel) : Bool :=
  let p := c.active
  let d := c.detector
  !c.clip.active && p.surgeRatio != 0 && d.refractory == 0 && p.surgeWindow ≤ d.floor.length
    && floorOf p.surgeWindow d.floor * p.surgeRatio ≤ c.lane.envelope * 8
    && p.onThreshold ≤ c.lane.envelope

/-- Step 3 of a judgement (R43 to R52), on the detector after steps 1 and 2. A late strike (R51) and
a release at the hold under an envelope at the on threshold (R52) make the same pair, RELEASE then
ONSET. -/
def Channel.verdict (c : Channel) : Verdict :=
  let p := c.active
  let d := c.detector
  let e := c.lane.envelope
  match d.gate with
  | .closed =>
    if d.rearmWait then (if e < p.offThreshold then .clearsWait else .stays)
    else if p.onThreshold ≤ e then .onset else .stays
  | .opened => if e < p.offThreshold then .entersDip else if c.surges then .surge else .stays
  | .dip =>
    if p.onThreshold ≤ e then
      if d.dipTimer < p.dipMin then .flutter
      else if d.dipTimer ≤ p.dipMax then .restrike
      else .releaseOnset
    else if releaseHold p.releaseHoldCode ≤ d.dipTimer then .release else .stays

/-- Whether what a judgement finds reaches a voice that holds an attack already: a RESTRIKE or a RELEASE
(R46, R50 to R52). -/
def Verdict.bringsArrival : Verdict → Bool
  | .surge | .restrike | .release | .releaseOnset => true
  | .stays | .clearsWait | .onset | .entersDip | .flutter => false

/-- CLIP as the judgement of this frame end may find it at the latest: ended, where its end is due (R12). -/
def Channel.clipAtLatest (c : Channel) : Markers :=
  { c.clip with active := c.clip.active && c.lane.clipQuiet != 128 }

/-- The judgement of this frame end is still to be made and may bring the voice a RESTRIKE or a RELEASE: it
does as things stand, or would once a CLIP end due at this frame end is taken (R12, R42, R105). -/
def Channel.arrivalMayCome (c : Channel) : Bool :=
  c.detector.judgementDue
    && ({ c with detector := c.detector.tick, clip := c.clipAtLatest } : Channel).verdict.bringsArrival

end Sys2Proof.Machine
end

