-- ==== Sys2Proof/Machine/Bleed.lean ====
section
/-! DEFINITION. The bleed qualifier (chapter 5): which sources count, the test, and the per-frame
step of a suspicion. -/

namespace Sys2Proof.Machine

/-- A source counts while its voice is ACQUIRING or SOUNDING (R99). -/
def Voice.counts (v : Voice) : Bool := v.state == .acquiring || v.state == .sounding

/-- The bleed test (R100): for every association entry whose source counts, the own envelope × 16 is
at least the ratio × the source's envelope. -/
def bleedPasses (s : State) (n : Str) : Bool :=
  let c := s.channel n
  c.active.associations.all fun a =>
    !(s.channel a.source).voice.counts
      || a.ratio * (s.channel a.source).lane.envelope ≤ 16 * c.lane.envelope

/-- A passing per-frame test (R67): ACQUIRING with the ring kept; the velocity taken stands, and a
held estimate is taken as if it had just arrived, so that the note begins in this event where velocity is
present (R70). -/
def passSuspicion (n : Str) (s : State) : State :=
  let c := s.channel n
  let t := s.mod n (.acquiring c.voice.velocity c.voice.carried)
  match c.voice.held with
  | none => t
  | some e => estimateAcquiring n e t

/-- A passing test would begin the note within its own event: velocity is present, and the held estimate is
one from which the pitch is learned (R67, R69, R70). -/
def Channel.passBeginsNote (c : Channel) : Bool :=
  c.voice.velocity.isSome
    && match c.voice.held with
      | some e => e.kind == .full || c.active.startPolicy == .fast
      | none => false

/-- The step waits for the judgement of this frame end: it would begin a note that a RESTRIKE or a RELEASE of
the same frame end would then find. R67 and R70 have such a pass begin the note and R105 has nothing offered
in either order; taking the arrival first keeps them all, and leaves what R105 says of either order (DEDUCED,
log 27). -/
def Channel.stepWaits (c : Channel) : Bool := c.arrivalMayCome && c.passBeginsNote

/-- The bleed window timer, while a per-frame step of it is due: the voice is SUSPECT and the step
of this frame end is not yet made (R102). -/
def Channel.stepTimer (c : Channel) : Option Nat :=
  if c.voice.state = .suspect && c.bleed.stepDue then c.bleed.timer else none

/-- The per-frame step (R102): the timer rises, the test is made, and its result goes to the voice,
a pass, the window's expiry, or neither. A pass that has to wait for the judgement stays due (R105, log 27). -/
def bleedStep (n : Str) (s : State) : State :=
  match (s.channel n).stepTimer with
  | none => s
  | some t =>
    if bleedPasses s n then (if (s.channel n).stepWaits then s else passSuspicion n s)
    else if (s.channel n).active.bleedWindow ≤ t + 1 then s.mod n (.entering .silent)
    else s.mod n fun c => { c with bleed := { timer := some (t + 1), stepDue := false } }

/-- The per-frame step is the one at which the window runs out: the test fails and the timer, after
rising, equals the bleed window (R102). -/
def windowRunsOut (n : Str) (s : State) : Bool :=
  match (s.channel n).stepTimer with
  | none => false
  | some t => !bleedPasses s n && (s.channel n).active.bleedWindow ≤ t + 1

/-- BLEED_PER_FRAME_STEP (R102). -/
def execBleedPerFrameStep (n : Str) (s : State) : Host.Outcome State Fault Refusal :=
  .next (s.live (bleedStep n))

/-- BLEED_WINDOW_EXPIRY (R67): the per-frame step, where it is the one at which the window runs
out. -/
def execBleedWindowExpiry (n : Str) (s : State) : Host.Outcome State Fault Refusal :=
  .next (s.live fun s => if windowRunsOut n s then bleedStep n s else s)

end Sys2Proof.Machine
end

