-- ==== Sys2Proof/Machine/Articulation.lean ====
section
/-! DEFINITION. The articulation detector (chapter 3): what a judgement does to the detector, and what
the voice does with the arrivals it makes. -/

namespace Sys2Proof.Machine

/-! ## Attacks at the voice -/

/-- A restart request to the string's capture unit (R35). -/
def restartRing (n : Str) (extension : Nat) (s : State) : State :=
  s.mod n fun c => { c with capture := c.capture.restart c.active extension }

/-- An ONSET reaches the voice (R65): in QUIET the attack is accepted, tested and the ring restarted,
with the extension of 2 at a wake; ACQUIRING on a pass, SUSPECT on a fail. Elsewhere it is ignored
(R61, R86). -/
def voiceOnset (n : Str) (wakeMark : Bool) (s : State) : State :=
  if (s.channel n).voice.state = .quiet then
    (restartRing n (if wakeMark then 2 else 0) s).mod n
      (if bleedPasses s n then .acquiring none 0 else .suspecting none 0)
  else s

/-- A RESTRIKE, of either kind, with its prior peak reaches the voice (R68, R72, R80, R84, R86). The
bleed test is made at once. -/
def voiceRestrike (n : Str) (prior : Nat) (s : State) : State :=
  let c := s.channel n
  let folded := c.voice.folded c.active.velocityReference prior
  let pass := bleedPasses s n
  match c.voice.state with
  | .suspect =>
    (restartRing n 0 s).mod n (if pass then .acquiring none folded else .suspecting none folded)
  | .acquiring =>
    if pass then (restartRing n 0 s).mod n (.acquiring none folded)
    else s.mod n (.modVoice fun v => { v with carried := folded, velocity := none })
  | .sounding =>
    if pass then (restartRing n 0 (endNote n .restrike s)).mod n (.acquiring none 0) else s
  | .silent =>
    (restartRing n 0 s).mod n (if pass then .acquiring none 0 else .suspecting none 0)
  | .quiet | .muted => s

/-! ## The velocity tracker -/

/-- The tracker completes (R54): the value is 127 under the clip mark, otherwise the peak's velocity
under this reference; it waits to be handed to the voice. -/
def Detector.completed (reference : Nat) (d : Detector) : Detector :=
  let value := if d.clipMark then 127 else velocityOf reference d.peak
  { d with phase := .complete, velocity := some value, completion := some value }

/-- A frame of the window counted; the tracker completes when none remains (R53). -/
def Detector.countFrame (reference : Nat) (d : Detector) : Detector :=
  let counted := { d with remaining := d.remaining - 1 }
  if counted.remaining = 0 then counted.completed reference else counted

/-- The detector at an ONSET or a RESTRIKE: the gate OPEN, the dip timer 0, the refractory timer
loaded, the floor window empty, and the tracker started on this frame's envelope, which is counted
at once (R43, R46, R50, R53). The timers are those of `p`; the velocity reference is that of the judgement,
which differs from `p`'s at the ONSET of a late strike whose RELEASE commits a profile (R51, R56). -/
def Detector.attack (p : Profile) (reference : Nat) (clip : Bool) (envelope : Nat) (d : Detector) :
    Detector :=
  { d with gate := .opened, dipTimer := 0, refractory := p.surgeRefractory, floor := [],
           phase := .running, peak := envelope, remaining := p.velocityWindow, clipMark := clip,
           velocity := none, completion := none : Detector }.countFrame reference

/-- The peak the tracker held before a restart: 0 if it was IDLE (R53). -/
def Detector.priorPeak (d : Detector) : Nat := if d.phase = .idle then 0 else d.peak

/-- Step 5 of a judgement that did not start the tracker (R53). -/
def Detector.track (p : Profile) (clip : Bool) (envelope : Nat) (d : Detector) : Detector :=
  if d.phase = .running then
    { d with peak := max d.peak envelope, clipMark := d.clipMark || clip : Detector }.countFrame
      p.velocityReference
  else d

/-- Step 4 of a judgement: an OPEN gate's envelope joins the floor window, which keeps the 16 newest
levels (R47). -/
def Detector.keepFloor (envelope : Nat) (d : Detector) : Detector :=
  if d.gate = .opened then
    let levels := d.floor ++ [envelope]
    { d with floor := levels.drop (levels.length - 16) }
  else d

/-! ## The judgement -/

/-- The detector changed. -/
def modDetector (n : Str) (f : Channel → Detector) (s : State) : State :=
  s.mod n fun c => { c with detector := f c }

/-- Steps 4 and 5 of a judgement that did not start the tracker. -/
def finishJudgement (n : Str) (s : State) : State :=
  modDetector n
    (fun c => (c.detector.keepFloor c.lane.envelope).track c.active c.clip.active c.lane.envelope) s

/-- An attack: the detector's part, step 4 included, and then the arrival at the voice. Step 5 does
nothing at a judgement that started the tracker (R53). `reference`: the velocity reference of the
judgement. -/
def attackGate (n : Str) (reference : Nat) (arrive : State → State) (s : State) : State :=
  arrive
    (modDetector n
      (fun c => (c.detector.attack c.active reference c.clip.active c.lane.envelope).keepFloor
        c.lane.envelope)
      s)

/-- The gate closes with a RELEASE, which the voice takes with the gate CLOSED (R51, R52). -/
def releaseGate (n : Str) (s : State) : State :=
  voiceRelease n
    (modDetector n (fun c => { c.detector.idleTracker with gate := .closed, dipTimer := 0 }) s)

/-- The rest of a judgement, given what step 3 found. The ONSET that follows a RELEASE loads its
timers from the profile then active, and the rest of the judgement stays under the profile it began with,
the velocity reference of a window of 1 included (R51, R56); a commit at the RELEASE that disables the
string leaves no detector to make it (R51, R58; log 18). -/
def actOn (n : Str) (verdict : Verdict) (s : State) : State :=
  let reference := (s.channel n).active.velocityReference
  match verdict with
  | .stays => finishJudgement n s
  | .clearsWait => modDetector n (fun c => { c.detector with rearmWait := false }) s
  | .onset => attackGate n reference (voiceOnset n false) s
  | .entersDip =>
    finishJudgement n
      (modDetector n (fun c => { c.detector with gate := .dip, dipTimer := 0, floor := [] }) s)
  | .flutter =>
    finishJudgement n
      (modDetector n (fun c => { c.detector with gate := .opened, dipTimer := 0, floor := [] }) s)
  | .surge | .restrike =>
    attackGate n reference (voiceRestrike n (s.channel n).detector.priorPeak) s
  | .release => releaseGate n s
  | .releaseOnset =>
    let t := releaseGate n s
    if (t.channel n).active.enabled then attackGate n reference (voiceOnset n false) t else t

/-- A judgement (R42): made once at each frame end in RUN on an enabled string. -/
def judge (n : Str) (s : State) : State :=
  if (s.channel n).detector.judgementDue then
    let t := modDetector n (fun c => c.detector.tick) s
    actOn n (t.channel n).verdict t
  else s

/-- The judgement of this frame end is one at which the dip timer reaches the release hold (R49,
R52). -/
def reachesHold (n : Str) (s : State) : Bool :=
  let c := s.channel n
  c.detector.judgementDue && c.detector.gate == .dip
    && releaseHold c.active.releaseHoldCode ≤ c.detector.dipTimer + 1

/-- VELOCITY_COMPLETION: a value completed at this frame end is handed to the voice (R54). -/
def takeCompletion (n : Str) (s : State) : State :=
  match (s.channel n).detector.completion with
  | some value =>
    voiceCompletion n value (modDetector n (fun c => { c.detector with completion := none }) s)
  | none => s

/-- ARTICULATION_JUDGEMENT (R42). -/
def execArticulationJudgement (n : Str) (s : State) : Host.Outcome State Fault Refusal :=
  .next (s.live (judge n))

/-- RELEASE_HOLD_EXPIRY (R52): the judgement, where it is the one at which the dip timer reaches the
release hold. -/
def execReleaseHoldExpiry (n : Str) (s : State) : Host.Outcome State Fault Refusal :=
  .next (s.live fun s => if reachesHold n s then judge n s else s)

/-- VELOCITY_COMPLETION (R54). -/
def execVelocityCompletion (n : Str) (s : State) : Host.Outcome State Fault Refusal :=
  .next (s.live (takeCompletion n))

end Sys2Proof.Machine
end

