-- ==== Sys2Proof/Machine/Conditioning.lean ====
section
/-! DEFINITION. Input conditioning (chapter 1): conversion, offset removal, the crossing path, what a
lane does at a sample and at a frame end, and the CLIP detector. -/

namespace Sys2Proof.Machine

/-! ## Conversion and offset -/

/-- A signal (in 1/128 level at gain x1) converted under a gain code: scaled by 2^g and limited
(R1). To which neighbouring level a signal between two levels converts is not stated (log 2). -/
def convert (gainCode : Nat) (signal : Int) : Int :=
  let scaled := signal * 2 ^ gainCode
  let level := scaled / 128
  limitTo (-2048) 2047
    (if scaled % 128 = 0 then level
     else if Config.conversionRoundsUp signal gainCode then level + 1 else level)

/-- The raw sample of a string whose signal this is. -/
def Channel.raw (signal : Int) (c : Channel) : Int := convert c.active.gainCode signal

/-- A raw sample at a conversion limit (R12). -/
def atLimit (raw : Int) : Bool := raw == -2048 || raw == 2047

/-- A raw sample that makes its frame high (R13). -/
def isHigh (raw : Int) : Bool := 2040 ≤ raw || raw ≤ -2040

/-- The conditioned sample: the offset estimate removed, limited (R4). -/
def Lane.conditioned (raw : Int) (l : Lane) : Int := limitTo (-2048) 2047 (raw - l.offset)

/-! ## The crossing path -/

/-- One filter section's step, in 1/4096 level: toward its input by the coefficient's fraction of the
difference, rounded with halves away from zero (R5). -/
def sectionStep (coefficient : Nat) (input out : Int) : Int :=
  roundHalfAway (4096 * out + coefficient * (input - out)) 4096

/-- The crossing filter's step: two sections in cascade (R5). -/
def Lane.filter (p : Profile) (conditioned : Int) (l : Lane) : Lane :=
  let k := bandCoefficient p.bandCode
  let first := sectionStep k (4096 * conditioned) l.filter1
  { l with filter1 := first, filter2 := sectionStep k first l.filter2 }

/-- The timestamp of a transit: the earlier sample's stamp plus 128 × (−a) / (b − a), rounded to the
nearest count with halves up, modulo 2^24 (R8). -/
def Transit.stampOf (t : Transit) : Stamp :=
  t.stamp + BitVec.ofNat 24 (roundHalfUp (128 * t.earlier.natAbs) (t.later - t.earlier).natAbs)

/-- A rise through zero between the preceding filtered value and this one becomes the latest transit
(R8). -/
def Lane.noteTransit (preceding : Int) (stamp : Stamp) (l : Lane) : Lane :=
  if 0 < l.filter2 && preceding ≤ 0 then
    { l with transit := some ⟨preceding, l.filter2, stamp - 128⟩ }
  else l

/-- The crossing detector's judgement of the filtered value (R6, R7), with the timestamp of the
crossing it accepts. -/
def Lane.detect (p : Profile) (stamp : Stamp) (l : Lane) : Lane × Option Stamp :=
  let band : Int := 4096 * p.hysteresis
  match l.arm with
  | .disarmed =>
    if l.filter2 ≤ -band then
      if p.persistence ≤ l.below + 1 then
        ({ l with arm := .armed, below := 0, above := 0 }, none)
      else ({ l with below := l.below + 1 }, none)
    else ({ l with below := 0 }, none)
  | .armed =>
    if band < l.filter2 then
      if p.persistence ≤ l.above + 1 then
        ({ l with arm := .disarmed, below := 0, above := 0, transit := none },
          some ((l.transit.map Transit.stampOf).getD stamp))
      else ({ l with above := l.above + 1 }, none)
    else ({ l with above := 0 }, none)

/-- The crossing path at a sample: filter, latest transit, detector (R5 to R8). -/
def Lane.crossingPath (p : Profile) (stamp : Stamp) (conditioned : Int) (l : Lane) :
    Lane × Option Stamp :=
  ((l.filter p conditioned).noteTransit l.filter2 stamp).detect p stamp

/-! ## A sample -/

/-- What a sample adds to the frame in progress (R3, R10, R12, R13). -/
def LaneFrame.add (raw conditioned : Int) (crossed : Bool) (f : LaneFrame) : LaneFrame where
  sum := f.sum + raw
  peak := max f.peak conditioned.natAbs
  limit := f.limit || atLimit raw
  high := f.high || isHigh raw
  crossed := f.crossed || crossed

/-- One string at a conversion instant: the gate pin takes up the gate level (R118). In START the raw
sample joins the START accumulator and nothing else runs (R2). In RUN and DOZE the frame's values
are kept, a limit sample sets the clip quiet count of an enabled string to 0 (R12), and in RUN an
enabled string's crossing path runs and hands on the crossing it accepts (R9). -/
def Channel.sample (mode : Mode) (stamp : Stamp) (signal : Int) (c : Channel) : Channel :=
  let raw := c.raw signal
  let c := { c with gateLine := { c.gateLine with pin := c.gateLine.high } }
  match mode with
  | .start => { c with lane := { c.lane with startSum := c.lane.startSum + raw } }
  | .run | .doze =>
    let x := c.lane.conditioned raw
    let (l, crossing) :=
      if mode = .run && c.active.enabled then c.lane.crossingPath c.active stamp x
      else (c.lane, none)
    { c with
      lane := { l with frame := l.frame.add raw x crossing.isSome,
                       clipQuiet := if c.active.enabled && atLimit raw then 0 else l.clipQuiet },
      capture := match crossing with
                 | some t => { c.capture with handed := some t }
                 | none => c.capture }

/-- CLIP raised at a sample: an enabled string's raw sample at a limit, in RUN or DOZE (R12). -/
def clipAtSample (signals : Eight Int) (n : Str) (s : State) : State :=
  let c := s.channel n
  if s.modes.mode ≠ .start && c.active.enabled && atLimit (c.raw (signals.get n)) then
    raiseCondition .clip n s
  else s

/-- The stamp of the next sample of RUN: 0 for the first after a reset, 128 more for each later one
(R18). -/
def State.nextStamp (s : State) : Stamp := if s.timebaseRunning then s.timebase + 128 else 0

/-- One conversion instant on all lanes (R1): the timebase advances in RUN (R18), each lane takes its
sample, and the CLIP detectors report. Their records are so offered before any other record
of this instant, one that an ESTIMATE brings or, at a frame's eighth sample, one of the frame end; R132 leaves
that order open (DESIGN CHOICE, log 32). -/
def takeSample (signals : Eight Int) (order : List Str) (s : State) : State :=
  let stamp := s.nextStamp
  let run := s.modes.mode == .run
  forStrings (clipAtSample signals) (Str.inOrder order)
    { s with
      channels := .of fun n => (s.channels.get n).sample s.modes.mode stamp (signals.get n),
      timebase := if run then stamp else s.timebase,
      timebaseRunning := s.timebaseRunning || run,
      frameSamples := s.frameSamples + 1 }

/-! ## A frame end -/

/-- The offset estimate's step toward the frame mean (R3). -/
def trackOffset (offset mean : Int) : Int :=
  if offset < mean then min 2047 (offset + 1)
  else if mean < offset then max (-2048) (offset - 1)
  else offset

/-- A lane at a frame end. In START the frame is over and nothing else happens (R2). In RUN and DOZE
the offset is tracked (R3) and the envelope formed (R10); the clip quiet count rises while CLIP is
active and the frame held no limit sample (R12); in RUN, on an enabled string, the OPEN detector
counts (R13, R14). Whether a frame counts there goes by the mode at its end, and all of its samples make it
high or not, those converted before a wake (DESIGN CHOICE, log 26) or before a commit that enabled the
string (DESIGN CHOICE, log 30) included. -/
def Channel.laneFrameEnd (mode : Mode) (c : Channel) : Channel :=
  let l := c.lane
  let f := l.frame
  match mode with
  | .start => { c with lane := { l with frame := .empty } }
  | .run | .doze =>
    let counts := mode = .run && c.active.enabled
    { c with lane :=
      { l with
        frame := .empty
        offset := trackOffset l.offset (roundHalfAway f.sum 8)
        envelope := max f.peak (l.envelope - c.active.decayStep)
        clipQuiet := if c.active.enabled && c.clip.active && !f.limit then tick 128 l.clipQuiet
                     else l.clipQuiet
        openHold := if counts && !c.openMarks.active then
                      (if f.high && !f.crossed then tick 256 l.openHold else 0)
                    else l.openHold
        openRelease := if counts && c.openMarks.active then
                         (if f.high then 0 else tick 256 l.openRelease)
                       else l.openRelease } }

/-- The measured offset at the end of START: the accumulated sum divided by 4,096 (R2); the crossing
path is cleared and runs from the next sample, the envelope is formed from 0 (R15). -/
def Lane.startEnd (l : Lane) : Lane :=
  { l.clearCrossing with offset := roundHalfAway l.startSum 4096, startSum := 0, envelope := 0 }

/-- CLIP_END: the clip quiet count has reached 128, CLIP becomes inactive and the count is 0 (R12,
R154). -/
def endClip (n : Str) (s : State) : State :=
  let c := s.channel n
  if c.clip.active && c.lane.clipQuiet == 128 then
    reportEnd .clip n
      (clearActive .clip n (s.mod n fun c => { c with lane := { c.lane with clipQuiet := 0 } }))
  else s

/-- CLIP_END (R12). -/
def execClipEnd (n : Str) (s : State) : Host.Outcome State Fault Refusal :=
  .next (s.live (endClip n))

end Sys2Proof.Machine
end

