-- ==== Sys2Proof/Machine/CaptureUnit.lean ====
section
/-! DEFINITION. The period capture unit (chapter 2): what it does with a crossing, the estimates it
forms, and the ESTIMATE arrival at the voice. -/

namespace Sys2Proof.Machine

/-- The interval between two timestamps, modulo 2^24 (R19). -/
def interval (t1 t2 : Stamp) : Nat := (t2 - t1).toNat

/-- The ring with a crossing at its newest end; a seventeenth entry removes the oldest (R27). -/
def enterRing (ring : List Stamp) (t : Stamp) : List Stamp :=
  let longer := ring ++ [t]
  longer.drop (longer.length - 16)

/-- The intervals between consecutive entries. -/
def intervals : List Stamp → List Nat
  | t1 :: t2 :: rest => interval t1 t2 :: intervals (t2 :: rest)
  | _ => []

/-- The newest `k` entries of a ring. -/
def newest (k : Nat) (ring : List Stamp) : List Stamp := ring.drop (ring.length - k)

/-- Whether an interval differs from the mean `sum / edges` by no more than `tolerance × mean / 64`
(R29), compared without division. -/
def withinTolerance (tolerance sum count d : Nat) : Bool :=
  64 * distance (count * d) sum ≤ tolerance * sum

/-- The full estimate over the newest E entries (R29, R30): the mean of the span's E − 1 intervals,
if every one of them passes; none when the ring is unsteady. The span is measured as one interval
from the E-th newest entry to the newest. -/
def fullEstimate (p : Profile) (ring : List Stamp) : Option Estimate :=
  let edges := edgesOf p.edgeSpanCode
  match newest edges ring with
  | [] => none
  | first :: rest =>
    let span := interval first ((rest.getLast?).getD first)
    if (intervals (first :: rest)).all (withinTolerance p.toleranceCode span (edges - 1)) then
      some ⟨.full, pitchOf span (edges - 1)⟩
    else none

/-- The provisional estimate over the newest interval alone (R31). -/
def provisionalEstimate (ring : List Stamp) : Option Estimate :=
  match newest 2 ring with
  | [t1, t2] => some ⟨.provisional, pitchOf (interval t1 t2) 1⟩
  | _ => none

/-- The estimate a unit attempts after an entry, by the ring count, E and the start policy (R28). -/
def attempt (p : Profile) (ring : List Stamp) : Option Estimate :=
  if ring.length < 2 then none
  else if edgesOf p.edgeSpanCode ≤ ring.length then fullEstimate p ring
  else if p.startPolicy = .fast then provisionalEstimate ring
  else none

/-- How a crossing is judged when the guard count is 0 (R26). -/
inductive CrossingVerdict where
  | first | long | short | entered
  deriving DecidableEq, Repr

/-- The table of R26. -/
def Capture.judge (t : Stamp) (u : Capture) : CrossingVerdict :=
  match u.ring.getLast? with
  | none => .first
  | some newest =>
    if 256 ≤ u.age then .long
    else if interval newest t < u.pmin then .short
    else if u.pmax < interval newest t then .long
    else .entered

/-- The ring replaced after an entry, the age count 0, and the one attempt at an estimate made; an
estimate becomes the last estimate and is delivered to the voice (R27, R33). -/
def Capture.entry (p : Profile) (ring : List Stamp) (u : Capture) : Capture :=
  let e := attempt p ring
  { u with ring := ring, age := 0,
           lastEstimate := match e with
                           | some e => some e
                           | none => u.lastEstimate,
           delivered := match e with
                        | some e => some e
                        | none => u.delivered }

/-- A crossing reaches the unit (R25, R26, R27). -/
def Capture.cross (p : Profile) (t : Stamp) (u : Capture) : Capture :=
  if 0 < u.guard then { u with guard := u.guard - 1 }
  else
    match u.judge t with
    | .first | .long => u.entry p [t]
    | .short => u
    | .entered => u.entry p (enterRing u.ring t)

/-- CROSSING: the unit takes the crossing its lane has handed on. -/
def takeCrossing (n : Str) (s : State) : State :=
  match (s.channel n).capture.handed with
  | some t => s.mod n fun c => { c with capture := { c.capture with handed := none }.cross c.active t }
  | none => s

/-- ESTIMATE: the voice takes the estimate its unit has delivered (R33). -/
def takeEstimate (n : Str) (s : State) : State :=
  match (s.channel n).capture.delivered with
  | some e =>
    voiceEstimate n e
      (s.mod n fun c => { c with capture := { c.capture with delivered := none } })
  | none => s

/-- The age count at a frame end in RUN: it rises to 256 while the ring is not empty (R24). It rises also
where an entry of this frame end's own instant, taken before FRAME_END, has just set it to 0 (DESIGN CHOICE,
log 35). -/
def Capture.frameEnd (u : Capture) : Capture :=
  if u.ring.isEmpty then u else { u with age := tick 256 u.age }

/-- CROSSING (R26). -/
def execCrossing (n : Str) (s : State) : Host.Outcome State Fault Refusal :=
  .next (s.live (takeCrossing n))

/-- ESTIMATE (R33). -/
def execEstimate (n : Str) (s : State) : Host.Outcome State Fault Refusal :=
  .next (s.live (takeEstimate n))

end Sys2Proof.Machine
end

