-- ==== Sys2Proof/Machine/Muting.lean ====
section
/-! DEFINITION. Mutes (section 4.9): a mute cause added or removed, the OPEN detector's changes that
make one, and the mute logic of the damp input under the damp mode. -/

namespace Sys2Proof.Machine

/-- The two mute causes. -/
inductive MuteCause where
  | damp | openCause
  deriving DecidableEq, Repr

/-- Whether the set of mute causes holds this one. -/
def Voice.has (cause : MuteCause) (v : Voice) : Bool :=
  match cause with
  | .damp => v.damp
  | .openCause => v.openCause

/-- The set of mute causes with this one present or absent. -/
def Voice.setCause (cause : MuteCause) (present : Bool) (v : Voice) : Voice :=
  match cause with
  | .damp => { v with damp := present }
  | .openCause => { v with openCause := present }

/-- The reason of the NOTE-OFF a cause brings (R85). -/
def MuteCause.reason : MuteCause → OffReason
  | .damp => .damped
  | .openCause => .muted

/-- A mute cause is added (R85): to a voice whose set was empty it ends the note, if any, and the
voice is MUTED; otherwise it joins the set. -/
def addCause (cause : MuteCause) (n : Str) (s : State) : State :=
  let v := (s.channel n).voice
  if v.hasCause then s.mod n (.modVoice (.setCause cause true))
  else
    let t := if v.state = .sounding then endNote n cause.reason s else s
    t.mod n fun c => (c.modVoice (.setCause cause true)).entering .muted

/-- A mute cause is removed (R86): while another remains the voice stays MUTED; when the last is
gone it is QUIET if its gate is CLOSED, SILENT otherwise. -/
def removeCause (cause : MuteCause) (n : Str) (s : State) : State :=
  if (s.channel n).voice.has cause then
    let t := s.mod n (.modVoice (.setCause cause false))
    let c := t.channel n
    if c.voice.hasCause then t
    else if c.detector.gate = .closed then enterQuiet n t
    else t.mod n (.entering .silent)
  else s

/-! ## OPEN -/

/-- The OPEN detector's counts set to 0 (R13, R14). -/
def clearOpenCounts (n : Str) (s : State) : State :=
  s.mod n fun c => { c with lane := { c.lane with openHold := 0, openRelease := 0 } }

/-- OPEN_ACTIVE: the open hold count has reached 256. OPEN latches and is reported first, and then
the OPEN cause is added (R13, R87, R153). Once due it is made in DOZE too, where a doze entry of the same
instant was taken first (DEDUCED, log 25). -/
def openBecomesActive (n : Str) (s : State) : State :=
  let c := s.channel n
  if !c.openMarks.active && c.lane.openHold == 256 then
    addCause .openCause n (raiseCondition .openKind n (clearOpenCounts n s))
  else s

/-- OPEN_END: the open release count has reached 256. The active marker is cleared, the OPEN cause
is removed, and then the end is reported (R14, R87, R154). Once due it is made in DOZE too, where a doze
entry of the same instant was taken first (DEDUCED, log 25). The end mark is looked at after a commit that
the removal brings, so a commit that disables the string has cleared it (R159) and no end is reported
(DESIGN CHOICE, log 28). -/
def openBecomesInactive (n : Str) (s : State) : State :=
  let c := s.channel n
  if c.openMarks.active && c.lane.openRelease == 256 then
    reportEnd .openKind n
      (removeCause .openCause n (clearActive .openKind n (clearOpenCounts n s)))
  else s

/-! ## The damp mute -/

/-- An operation made on the voice of each enabled string, in ascending order (R89). -/
def forEnabled (op : Str → State → State) (s : State) : State :=
  forStrings (fun n t => if (t.channel n).active.enabled then op n t else t) Str.all s

/-- The damp mute comes into force: NOTICE(DAMP-ON), and then DAMP is added to each enabled voice
(R89). -/
def dampComes (s : State) : State :=
  let t := offerPlain (.notice .dampOn) s
  forEnabled (addCause .damp) { t with mute := { t.mute with inForce := true } }

/-- The damp mute ends: DAMP is removed from each enabled voice, and then NOTICE(DAMP-OFF) (R89). -/
def dampEnds (s : State) : State :=
  offerPlain (.notice .dampOff)
    (forEnabled (removeCause .damp) { s with mute := { s.mute with inForce := false } })

/-- The damp mute brought into force, or ended, if it is not so already. -/
def setDampMute (wanted : Bool) (s : State) : State :=
  if wanted = s.mute.inForce then s else if wanted then dampComes s else dampEnds s

/-- The damp latch set or cleared. -/
def setLatch (latched : Bool) (s : State) : State := { s with mute := { s.mute with latch := latched } }

/-- DAMP_ASSERTION: the debounced level becomes asserted; under FOLLOW the mute comes into force,
under LATCH the latch is set and the mute comes into force if it was not (R88, R89). -/
def dampAsserted (s : State) : State :=
  if s.mute.changeDue && !s.mute.debounced then
    let t := { s with mute := { s.mute with debounced := true, changeDue := false } }
    match t.globals.dampMode with
    | .off => t
    | .follow => setDampMute true t
    | .latch => setDampMute true (setLatch true t)
  else s

/-- DAMP_DEASSERTION: the debounced level becomes deasserted; under FOLLOW the mute ends (R88,
R89). -/
def dampDeasserted (s : State) : State :=
  if s.mute.changeDue && s.mute.debounced then
    let t := { s with mute := { s.mute with debounced := false, changeDue := false } }
    match t.globals.dampMode with
    | .follow => setDampMute false t
    | .off | .latch => t
  else s

/-- A sampling of the DAMP pin (R88): a change is due when this sample and the previous one agree
with each other and differ from the debounced level. -/
def Mute.sample (pin : Bool) (m : Mute) : Mute :=
  { m with pin := pin, previous := some pin,
           changeDue := m.previous == some pin && pin != m.debounced }

/-- A change of damp mode (R91): the new mode applies at once, and the latch and the mute follow its
table. -/
def changeDampMode (new : DampMode) (s : State) : State :=
  let t := { s with globals := { s.globals with dampMode := new } }
  if new = s.globals.dampMode then s
  else
    match new with
    | .off => setDampMute false (setLatch false t)
    | .follow => setDampMute s.mute.debounced (setLatch false t)
    | .latch =>
      if s.globals.dampMode = .follow && s.mute.debounced then setLatch true t
      else setDampMute false (setLatch false t)

/-- OPEN_ACTIVE (R13). -/
def execOpenActive (n : Str) (s : State) : Host.Outcome State Fault Refusal :=
  .next (s.live (openBecomesActive n))

/-- OPEN_END (R14). -/
def execOpenEnd (n : Str) (s : State) : Host.Outcome State Fault Refusal :=
  .next (s.live (openBecomesInactive n))

/-- DAMP_ASSERTION (R89). -/
def execDampAssertion (s : State) : Host.Outcome State Fault Refusal :=
  .next (s.live dampAsserted)

/-- DAMP_DEASSERTION (R89). -/
def execDampDeassertion (s : State) : Host.Outcome State Fault Refusal :=
  .next (s.live dampDeasserted)

end Sys2Proof.Machine
end

