-- ==== Sys2Proof/Machine/ModeControl.lean ====
section
/-! DEFINITION. The mode controller (chapter 11): the end of START, doze entry, the two wakes, and
the resets with the reset cause record. -/

namespace Sys2Proof.Machine

/-! ## The end of START (R173) -/

/-- START_END: the settle timer has reached 512. Within one event each lane takes its measured
offset, every voice counts as entering QUIET, HELLO is offered with the reset cause record, and the
mode becomes RUN with the idle timer at 0. -/
def endStart (s : State) : State :=
  if s.modes.mode = .start && s.modes.settle == startFrames then
    let measured := s.modAll fun c => { c with lane := c.lane.startEnd }
    let quiet := forStrings enterQuiet Str.all measured
    let greeted := offerPlain (.notice (.hello s.modes.causes)) quiet
    { greeted with modes := { greeted.modes with mode := .run, idle := 0, idleDue := false } }
  else s

/-! ## Doze entry (R176) -/

/-- A voice at doze entry (R94): a note ends with NOTE-OFF(DOZE) if reported; every voice but a QUIET
or a MUTED one enters QUIET. -/
def dozeVoice (n : Str) (s : State) : State :=
  match (s.channel n).voice.state with
  | .sounding => enterQuiet n (offerNoteOff n .doze s)
  | .suspect | .acquiring | .silent => enterQuiet n s
  | .quiet | .muted => s

/-- The gate line LOW with no drop (R123), the ring emptied (R38), the crossing path cleared (R15). -/
def Channel.dozeBlocks (c : Channel) : Channel :=
  { c with gateLine := c.gateLine.doze, capture := c.capture.doze, lane := c.lane.clearCrossing }

/-- Doze entry (R176): the mode, the gates, the voices in ascending order, the lines, rings and
crossing paths, and NOTICE(DOZING), in this order. Before them the voices take what the judgements of this
frame end have made and not yet handed over, their velocity completions (R55, R57, R94), in string order
(DESIGN CHOICE, log 38). A damp change and an OPEN change due at this instant
stay due (DEDUCED, log 22 and log 25). Where the entry is taken after FRAME_END, the frame that has just
ended is not compared with the wake threshold (DESIGN CHOICE, log 34). The idle timer, which does not run in
DOZE, stands at 0 there (DESIGN CHOICE, log 36). -/
def enterDoze (s : State) : State :=
  let judged := forStrings takeCompletion Str.all s
  let moded := { judged with modes := { judged.modes with mode := .doze, idle := 0, idleDue := false,
                                                          wakeDue := false } }
  let closed := moded.modAll fun c => { c with detector := c.detector.doze }
  let voiced := forStrings dozeVoice Str.all closed
  offerPlain (.notice .dozing) (voiced.modAll Channel.dozeBlocks)

/-- IDLE_DOZE: the idle timer reached the doze idle time at this frame end in RUN (R176). -/
def idleDoze (s : State) : State :=
  if s.modes.mode = .run && s.modes.idleDue then enterDoze s else s

/-! ## Wakes (R177) -/

/-- The mode becomes RUN with the idle timer at 0, and NOTICE(WOKE) is offered. -/
def returnToRun (cause : WakeCause) (s : State) : State :=
  offerPlain (.notice (.woke cause))
    { s with modes := { s.modes with mode := .run, idle := 0, idleDue := false, wakeDue := false } }

/-- A string whose envelope reaches the wake threshold: enabled, and at or above it (R177). -/
def wakes (s : State) (n : Str) : Bool :=
  (s.channel n).active.enabled && s.globals.wakeThreshold ≤ (s.channel n).lane.envelope

/-- A waking string: its gate opens on this frame's envelope with an ONSET that carries the wake
mark (R57). -/
def wakeString (n : Str) (s : State) : State :=
  attackGate n (s.channel n).active.velocityReference (voiceOnset n true) s

/-- WAKE_BY_STRING (R177): the wake detection that a frame end in DOZE owes, made once. With no envelope
at the wake threshold the part dozes on. Otherwise WOKE names the lowest-numbered string that reached it
and is offered first; then each such string makes its ONSET, in the order given (R106). At a wake by
string no detector holds a re-arm wait (R57, log 16). -/
def wakeByString (order : List Str) (s : State) : State :=
  if s.modes.mode = .doze && s.modes.wakeDue then
    match Str.all.filter (wakes s) with
    | [] => { s with modes := { s.modes with wakeDue := false } }
    | lowest :: _ =>
      let run := returnToRun (.string lowest) s
      let ready := run.modAll fun c => { c with detector := { c.detector with rearmWait := false } }
      forStrings wakeString ((Str.inOrder order).filter (wakes s)) ready
  else s

/-- The WAKE command taken in DOZE (R177): RUN with every gate CLOSED. Where the wake detection of
this frame end is not yet taken, its envelopes reach the detectors in RUN instead. -/
def wakeByCommand (s : State) : State :=
  let owed := s.modes.wakeDue
  (returnToRun .command s).modAll fun c =>
    { c with detector := { c.detector with judgementDue := owed && c.active.enabled } }

/-! ## Resets (R174, R175) -/

/-- The part after a reset that leaves it these strings, settings, causes and straps. The pins'
levels and the sender's queue of steps are outside the part and stand. -/
def State.afterReset (channels : Eight Channel) (globals : Globals) (causes : Causes)
    (straps : Straps) (s : State) : State where
  channels := channels
  globals := globals
  lock := false
  timebase := 0
  timebaseRunning := false
  frameSamples := 0
  queue := .reset
  backlog := .clear
  mute := .reset s.mute.pin
  link := .reset straps
  modes := .reset causes s.modes.resetPinLow
  pending := s.pending

/-- A power-on, RESET_N or supply-drop reset: the default profiles and settings (R151, R174). -/
def State.defaulted (causes : Causes) (straps : Straps) (s : State) : State :=
  s.afterReset (.of Channel.default) defaultGlobals causes straps

/-- The straps a reset leaves: read as START begins, and so not while RESET_N is held low (R174). -/
def State.strapsRead (straps : Straps) (s : State) : Straps :=
  if s.modes.resetPinLow then s.link.straps else straps

/-- POWER_ON: the record is exactly POWER (R174). -/
def powerOn (straps : Straps) (s : State) : State :=
  s.defaulted .powerOnly (s.strapsRead straps)

/-- SUPPLY_DROP: the earlier causes, with SUPPLY-DROP added (R174). -/
def supplyDrop (straps : Straps) (s : State) : State :=
  s.defaulted { s.modes.causes with supplyDrop := true } (s.strapsRead straps)

/-- RESET_N driven low: the earlier causes, with PIN added, and the part held in reset (R174). A pin
that is low already is not driven low again. -/
def pinReset (s : State) : State :=
  let t := s.defaulted { s.modes.causes with pin := true } s.link.straps
  { t with modes := { t.modes with resetPinLow := true } }

/-- RESET_N released: the straps are read and START begins (R174). -/
def pinReleased (straps : Straps) (s : State) : State :=
  if s.modes.resetPinLow then
    { s with modes := { s.modes with resetPinLow := false }, link := { s.link with straps := straps } }
  else s

/-- Whether a due RESTART can take effect: its reply frame has ended, or is the frame in transmission, and
RESTART_RESET says that it ends now (R175; log 11). -/
def State.restartNow (s : State) : Bool :=
  s.modes.restart == .replySent ||
    (s.modes.restart == .due &&
      match s.link.tx with
      | .sending _ restartReply => restartReply
      | .idle => false)

/-- RESTART_RESET: the record gains RESTART and the part resets, keeping its profiles, its pending
flags and its global settings (R151, R174, R175); the straps are read (R161). -/
def restartReset (straps : Straps) (s : State) : State :=
  if s.restartNow then
    s.afterReset (.of fun n => (s.channel n).restarted) s.globals
      { s.modes.causes with restart := true } straps
  else s

/-- START_END (R173). -/
def execStartEnd (s : State) : Host.Outcome State Fault Refusal := .next (s.live endStart)

/-- IDLE_DOZE (R176). -/
def execIdleDoze (s : State) : Host.Outcome State Fault Refusal := .next (s.live idleDoze)

/-- WAKE_BY_STRING (R177). -/
def execWakeByString (order : List Str) (s : State) : Host.Outcome State Fault Refusal :=
  .next (s.live (wakeByString order))

/-- RESTART_RESET (R175). -/
def execRestartReset (straps : Straps) (s : State) : Host.Outcome State Fault Refusal :=
  .next (s.live (restartReset straps))

/-- POWER_ON (R174). -/
def execPowerOn (straps : Straps) (s : State) : Host.Outcome State Fault Refusal :=
  .next (powerOn straps s)

/-- SUPPLY_DROP (R174). -/
def execSupplyDrop (straps : Straps) (s : State) : Host.Outcome State Fault Refusal :=
  .next (supplyDrop straps s)

/-- RESET_N (R174). -/
def execResetN (s : State) : Host.Outcome State Fault Refusal := .next (s.live pinReset)

/-- RESET_N_RELEASED (R174). -/
def execResetNReleased (straps : Straps) (s : State) : Host.Outcome State Fault Refusal :=
  .next (pinReleased straps s)

end Sys2Proof.Machine
end

