-- ==== Sys2Proof/Machine/LinkControl.lean ====
section
/-! DEFINITION. The control link (chapter 10): the check byte, the byte layouts of records and replies
(R162, R171), the receiver (R163 to R165) and the transmitter (R167). -/

namespace Sys2Proof.Machine

/-! ## Frames (R162) -/

/-- The byte SYNC. -/
def syncByte : Byte := 0x7e

/-- A byte taken into the CRC register, bit by bit, most significant first; polynomial
x^8 + x^2 + x + 1 (R162). -/
def crcBits : Nat → Byte → Byte
  | 0, r => r
  | k + 1, r => crcBits k (if r.msb then (r <<< 1) ^^^ 0x07 else r <<< 1)

/-- CHECK over a list of bytes, from a register (R162). -/
def crcFrom : Byte → List Byte → Byte
  | r, [] => r
  | r, b :: rest => crcFrom (crcBits 8 (r ^^^ b)) rest

/-- CHECK over LEN, KIND and payload (R162). -/
def crc8 (bytes : List Byte) : Byte := crcFrom 0 bytes

/-- A number as a byte. -/
def byte (x : Nat) : Byte := BitVec.ofNat 8 x

/-- A number as two bytes, low byte first (R171). -/
def bytes2 (x : Nat) : List Byte := [byte (x % 256), byte (x / 256)]

/-- A signed number as one byte in two's complement (R171). -/
def signed1 (x : Int) : Byte := BitVec.ofInt 8 x

/-- A signed number as two bytes in two's complement, low byte first (R171). -/
def signed2 (x : Int) : List Byte := bytes2 (BitVec.ofInt 16 x).toNat

/-- A whole frame: SYNC, LEN, KIND and payload, CHECK (R162). -/
def frameBytes (kind : Byte) (payload : List Byte) : List Byte :=
  let checked := byte (payload.length + 1) :: kind :: payload
  syncByte :: checked ++ [crc8 checked]

/-! ## Layouts (R171) -/

/-- The code of a NOTE-ON's flag. -/
def NoteFlag.code : NoteFlag → Byte
  | .none => 0 | .provisional => 1 | .unpitched => 2 | .legato => 3 | .slid => 4

/-- The code of a NOTE-OFF's reason. -/
def OffReason.code : OffReason → Byte
  | .release => 1 | .restrike => 2 | .legato => 3 | .slid => 4 | .lost => 5
  | .flush => 6 | .reconfigure => 7 | .damped => 8 | .muted => 9 | .doze => 10

/-- The reset cause record as a byte. -/
def Causes.byte (c : Causes) : Byte :=
  byteOfBits c.power c.pin c.supplyDrop c.restart false false false false

/-- A string's number as a byte. -/
def stringByte (n : Str) : Byte := byte n.number

/-- A yes or no as a byte. -/
def flagByte (b : Bool) : Byte := if b then 1 else 0

/-- A record's KIND and payload (R171). -/
def Record.layout : Record → Byte × List Byte
  | .noteOn n serial base velocity offset flag =>
    (0x80, [stringByte n, serial, byte base, byte velocity, signed1 offset, flag.code])
  | .noteOff n serial reason => (0x81, [stringByte n, serial, reason.code])
  | .glide n serial offset => (0x82, stringByte n :: serial :: signed2 offset)
  | .pitchFix n serial base offset => (0x83, [stringByte n, serial, byte base, signed1 offset])
  | .condition (.string .clip n) now => (0x84, [stringByte n, 0, flagByte now])
  | .condition (.string .openKind n) now => (0x84, [stringByte n, 1, flagByte now])
  | .condition .backlog now => (0x84, [0, 2, flagByte now])
  | .notice (.hello causes) => (0x85, [0, causes.byte])
  | .notice (.woke (.string n)) => (0x85, [1, stringByte n])
  | .notice (.woke .command) => (0x85, [1, 0])
  | .notice .dozing => (0x85, [2])
  | .notice .dampOn => (0x85, [3])
  | .notice .dampOff => (0x85, [4])

/-- A record's frame. -/
def Record.bytes (r : Record) : List Byte := frameBytes r.layout.1 r.layout.2

/-- The outcome byte, followed under BAD-FIELD by the field index (R166). -/
def ReplyOutcome.bytes : ReplyOutcome → List Byte
  | .taken => [0x00] | .committed => [0x01] | .staged => [0x02] | .nothing => [0x03]
  | .unknownKind => [0x80] | .badLength => [0x81] | .badString => [0x82]
  | .badField index => [0x83, byte index]
  | .locked => [0x84] | .wrongMode => [0x85] | .wrongState => [0x86]

/-- A reply's frame: KIND, the two summary bytes, the outcome, the data (R171). -/
def Reply.bytes (r : Reply) : List Byte :=
  frameBytes r.kind (r.summary0 :: r.summary1 :: r.outcome.bytes ++ r.data)

/-! ## The receiver -/

/-- The receiver back in HUNT, the partial frame gone (R163, R164). The inter-byte timer, which does not run
in HUNT, stands at 0 there (DESIGN CHOICE, log 37). -/
def Link.hunt (l : Link) : Link :=
  { l with rxState := .hunt, rxLength := 0, rxBody := [], rxTimer := 0 }

/-- A fault: the partial frame discarded, FRAME-ERR set, back to HUNT (R163, R164). -/
def Link.fault (l : Link) : Link := { l.hunt with frameErr := true }

/-- A complete frame: stored when the buffer holds fewer than 2, discarded with OVERRUN otherwise
(R165). The body holds KIND and payload. -/
def Link.complete (l : Link) : Link :=
  match l.rxBody with
  | [] => l.hunt
  | kind :: payload =>
    if l.buffer.length < 2 then { l.hunt with buffer := l.buffer ++ [⟨kind, payload⟩] }
    else { l.hunt with overrun := true }

/-- The check byte is the CRC of the frame held (R162). -/
def Link.checkMatches (l : Link) (b : Byte) : Bool := b == crc8 (byte l.rxLength :: l.rxBody)

/-- A byte at the receiver (the table of R163). -/
def Link.receive (b : Byte) (l : Link) : Link :=
  match l.rxState with
  | .hunt => if b = syncByte then { l with rxState := .length, rxTimer := 0 } else l.fault
  | .length =>
    if 1 ≤ b.toNat && b.toNat ≤ 48 then
      { l with rxState := .body, rxLength := b.toNat, rxBody := [], rxTimer := 0 }
    else l.fault
  | .body =>
    let held := l.rxBody ++ [b]
    { l with rxBody := held, rxTimer := 0,
             rxState := if l.rxLength ≤ held.length then .check else .body }
  | .check => if l.checkMatches b then l.complete else l.fault

/-- The frame the receiver completes with this byte counts as a received command (R165). -/
def Link.completes (b : Byte) (l : Link) : Bool := l.rxState == .check && l.checkMatches b

/-- RECEIVED_BYTE: a byte, or a line error if its stop bit is low (R161, R163); a completed frame
sets the idle timer to 0 (R165, R176). -/
def receiveByte (b : Byte) (stopHigh : Bool) (s : State) : State :=
  if stopHigh then
    let t := { s with link := s.link.receive b }
    if s.link.completes b then { t with modes := { t.modes with idle := 0, idleDue := false } } else t
  else { s with link := s.link.fault }

/-- INTER_BYTE_TIMEOUT: the timer has reached 9 within a frame (R164). -/
def byteTimeout (s : State) : State :=
  if s.link.rxState ≠ .hunt && 9 ≤ s.link.rxTimer then { s with link := s.link.fault } else s

/-- The inter-byte timer at a frame end (R164). It rises also where a byte taken at this frame end's own
instant, before FRAME_END, has just set it to 0 (DESIGN CHOICE, log 33). -/
def Link.frameEnd (l : Link) : Link :=
  if l.rxState = .hunt then l else { l with rxTimer := tick 9 l.rxTimer }

/-! ## The transmitter -/

/-- TRANSMIT_TAKE: an idle transmitter takes the reply in the slot, or the head record if the event
gate is OPEN (R135, R167). Once the reply of a RESTART has ended it takes nothing more (R137). -/
def transmitTake (s : State) : State :=
  if s.link.tx = .idle && s.modes.restart ≠ .replySent then
    match s.link.slot, s.queue.records with
    | some reply, _ =>
      { s with link := { s.link with slot := none,
                                     tx := .sending reply.bytes (s.modes.restart == .due) } }
    | none, head :: rest =>
      if s.queue.gateOpen then
        updateBacklog
          { s with queue := { s.queue with records := rest },
                   link := { s.link with tx := .sending head.bytes false } }
      else s
    | none, [] => s
  else s

/-- FRAME_SENT: the frame's last stop bit ends and the transmitter is IDLE; if the frame was the
reply of a RESTART, the restart takes effect now (R167, R175). -/
def frameSent (s : State) : State :=
  match s.link.tx with
  | .idle => s
  | .sending _ restartReply =>
    { s with link := { s.link with tx := .idle },
             modes := { s.modes with restart := if restartReply then .replySent else s.modes.restart } }

/-- RECEIVED_BYTE (R163). -/
def execReceivedByte (b : Byte) (stopHigh : Bool) (s : State) : Host.Outcome State Fault Refusal :=
  .next (s.live (receiveByte b stopHigh))

/-- INTER_BYTE_TIMEOUT (R164). -/
def execInterByteTimeout (s : State) : Host.Outcome State Fault Refusal :=
  .next (s.live byteTimeout)

/-- TRANSMIT_TAKE (R167). -/
def execTransmitTake (s : State) : Host.Outcome State Fault Refusal := .next (s.live transmitTake)

/-- FRAME_SENT (R167). -/
def execFrameSent (s : State) : Host.Outcome State Fault Refusal := .next (s.live frameSent)

end Sys2Proof.Machine
end

