-- ==== Sys2Proof/Machine/Operands.lean ====
section
/-! DEFINITION. The operands of commands: the profile record and the global record as bytes (R172),
their validation (R141, R142, R149), and the sets and strings of CLEAR-CONDITIONS (R156, R168). -/

namespace Sys2Proof.Machine

/-- The value of the byte at a place of a record; the record is as long as its command's LEN
requires. -/
def field (r : List Byte) (i : Nat) : Nat := (r.getD i 0).toNat

/-- The value of two bytes, low byte first (R171). -/
def field2 (r : List Byte) (i : Nat) : Nat := field r i + 256 * field r (i + 1)

/-- A value within an inclusive range (R141). -/
def within (lo hi x : Nat) : Bool := lo ≤ x && x ≤ hi

/-- The index of the first check that fails, each check with the field it is charged to (R142). -/
def firstFailing : List (Nat × Bool) → Option Nat
  | [] => none
  | (index, passes) :: rest => if passes then firstFailing rest else some index

/-! ## The profile record -/

/-- The range check of the association entries (R141): at most 2, each source 1 to 8 and each ratio
1 to 64. Entry bytes beyond the count are not read (R172). -/
def associationsInRange (r : List Byte) : Bool :=
  let count := field r 33
  count ≤ 2
    && (count < 1 || within 1 8 (field r 34) && within 1 64 (field r 35))
    && (count < 2 || within 1 8 (field r 36) && within 1 64 (field r 37))

/-- The cross check of the association entries for string `n` (R142). -/
def associationsDistinct (n : Str) (r : List Byte) : Bool :=
  let count := field r 33
  (count < 1 || field r 34 != n.number)
    && (count < 2 || field r 36 != n.number && field r 34 != field r 36)

/-- The checks of a profile record for string `n`, in the order validation makes them: the fields in
index order, at each its range check and then the cross checks charged to it (R141, R142). -/
def profileChecks (n : Str) (r : List Byte) : List (Nat × Bool) :=
  [(1, within 0 1 (field r 0)),
   (2, within 12 100 (field r 1)),
   (3, within 12 36 (field r 2)),
   (4, within 0 5 (field r 3)),
   (4, 12 + field r 3 ≤ field r 1),
   (5, within 1 24 (field r 4)),
   (5, field r 1 + field r 2 + field r 4 ≤ 112),
   (6, within 0 7 (field r 5)),
   (7, within 0 7 (field r 6)),
   (8, within 0 255 (field r 7)),
   (9, within 1 4 (field r 8)),
   (10, within 1 255 (field r 9)),
   (11, within 0 3 (field r 10)),
   (12, within 0 7 (field r 11)),
   (13, within 1 8 (field r 12))] ++
  [(14, within 1 2047 (field2 r 13)),
   (15, within 0 2047 (field2 r 15)),
   (15, field2 r 15 ≤ field2 r 13),
   (16, within 0 254 (field r 17)),
   (17, within 1 255 (field r 18)),
   (17, field r 17 < field r 18),
   (18, within 0 10 (field r 19)),
   (18, field r 18 < releaseHold (field r 19)),
   (19, field r 20 == 0 || within 10 32 (field r 20)),
   (20, within 2 16 (field r 21)),
   (21, within 4 255 (field r 22)),
   (22, within 1 16 (field r 23)),
   (23, within 64 2048 (field2 r 24))] ++
  [(24, within 0 1 (field r 26)),
   (25, within 8 255 (field r 27)),
   (25, field r 23 ≤ field r 27),
   (26, within 0 2 (field r 28)),
   (27, within 16 96 (field r 29)),
   (28, within 1 4 (field r 30)),
   (29, within 4 1023 (field2 r 31)),
   (30, associationsInRange r),
   (30, associationsDistinct n r),
   (31, within 1 255 (field r 38)),
   (32, [0, 1, 2, 4, 8].contains (field r 39)),
   (33, within 0 15 (field r 40)),
   (34, within 0 255 (field r 41)),
   (35, within 1 63 (field r 42))]

/-- An association entry from its two bytes. -/
def associationOf (source ratio : Nat) : List Association :=
  match Str.ofNumber source with
  | some n => [⟨n, ratio⟩]
  | none => []

/-- The association entries of a record (R172). -/
def associationsOf (r : List Byte) : List Association :=
  match field r 33 with
  | 0 => []
  | 1 => associationOf (field r 34) (field r 35)
  | _ => associationOf (field r 34) (field r 35) ++ associationOf (field r 36) (field r 37)

/-- The start policy of its code (R172). -/
def startPolicyOf (code : Nat) : StartPolicy := if code = 0 then .fast else .confirmed

/-- The legato policy of its code (R172). -/
def legatoPolicyOf : Nat → LegatoPolicy
  | 0 => .step | 1 => .glide | _ => .split

/-- The glide mode of its code (R172). -/
def glideModeOf (code : Nat) : GlideMode := if code = 0 then .onEstimate else .periodic code

/-- The profile a record holds (R172). -/
def profileOf (r : List Byte) : Profile where
  enabled := field r 0 == 1
  openNote := field r 1
  span := field r 2
  downAllowance := field r 3
  bendRange := field r 4
  gainCode := field r 5
  bandCode := field r 6
  hysteresis := field r 7
  persistence := field r 8
  decayStep := field r 9
  edgeSpanCode := field r 10
  attackGuard := field r 11
  toleranceCode := field r 12
  onThreshold := field2 r 13
  offThreshold := field2 r 15
  dipMin := field r 17
  dipMax := field r 18
  releaseHoldCode := field r 19
  surgeRatio := field r 20
  surgeWindow := field r 21
  surgeRefractory := field r 22
  velocityWindow := field r 23
  velocityReference := field2 r 24
  startPolicy := startPolicyOf (field r 26)
  acquisitionLimit := field r 27
  legatoPolicy := legatoPolicyOf (field r 28)
  stepThreshold := field r 29
  stepHold := field r 30
  lostLimit := field2 r 31
  associations := associationsOf r
  bleedWindow := field r 38
  glideMode := glideModeOf (field r 39)
  deadband := field r 40
  slew := field r 41
  retriggerDrop := field r 42

/-- The code of a start policy. -/
def StartPolicy.code : StartPolicy → Nat
  | .fast => 0 | .confirmed => 1

/-- The code of a legato policy. -/
def LegatoPolicy.code : LegatoPolicy → Nat
  | .step => 0 | .glide => 1 | .split => 2

/-- The code of a glide mode. -/
def GlideMode.code : GlideMode → Nat
  | .onEstimate => 0 | .periodic interval => interval

/-- The five bytes of the association entries; entry bytes beyond the count are 0 (R172). -/
def associationBytes : List Association → List Byte
  | [] => [0, 0, 0, 0, 0]
  | [a] => [1, stringByte a.source, byte a.ratio, 0, 0]
  | a :: b :: _ => [2, stringByte a.source, byte a.ratio, stringByte b.source, byte b.ratio]

/-- A profile as its record of 43 bytes (R172). -/
def Profile.bytes (p : Profile) : List Byte :=
  [byte p.enabled.toNat, byte p.openNote, byte p.span, byte p.downAllowance, byte p.bendRange,
    byte p.gainCode, byte p.bandCode, byte p.hysteresis, byte p.persistence, byte p.decayStep,
    byte p.edgeSpanCode, byte p.attackGuard, byte p.toleranceCode]
  ++ bytes2 p.onThreshold ++ bytes2 p.offThreshold
  ++ [byte p.dipMin, byte p.dipMax, byte p.releaseHoldCode, byte p.surgeRatio, byte p.surgeWindow,
    byte p.surgeRefractory, byte p.velocityWindow]
  ++ bytes2 p.velocityReference
  ++ [byte p.startPolicy.code, byte p.acquisitionLimit, byte p.legatoPolicy.code,
    byte p.stepThreshold, byte p.stepHold]
  ++ bytes2 p.lostLimit
  ++ associationBytes p.associations
  ++ [byte p.bleedWindow, byte p.glideMode.code, byte p.deadband, byte p.slew, byte p.retriggerDrop]

/-! ## The global record -/

/-- The checks of a global record, in index order (R149, R171, R172). -/
def globalChecks (r : List Byte) : List (Nat × Bool) :=
  [(1, within 0 2 (field r 0)),
   (2, within 0 15 (field r 1)),
   (3, within 1 2047 (field2 r 2)),
   (4, within 0 7 (field r 4)),
   (5, within 8 31 (field r 5))]

/-- The damp mode of its code (R172). -/
def dampModeOf : Nat → DampMode
  | 0 => .off | 1 => .follow | _ => .latch

/-- A set of condition kinds from its bits (R168, R172). -/
def kindSetOf (bits : Nat) : KindSet := ⟨bits.testBit 0, bits.testBit 1, bits.testBit 2⟩

/-- The global settings a record holds (R172). -/
def globalsOf (r : List Byte) : Globals where
  dampMode := dampModeOf (field r 0)
  dozeIdleCode := field r 1
  wakeThreshold := field2 r 2
  reportMask := kindSetOf (field r 4)
  highWater := field r 5

/-- The code of a damp mode. -/
def DampMode.code : DampMode → Nat
  | .off => 0 | .follow => 1 | .latch => 2

/-- A set of condition kinds as its bits. -/
def KindSet.bits (k : KindSet) : Nat := k.clip.toNat + 2 * k.openKind.toNat + 4 * k.backlog.toNat

/-- The global settings as their record of 6 bytes (R172). -/
def Globals.bytes (g : Globals) : List Byte :=
  [byte g.dampMode.code, byte g.dozeIdleCode] ++ bytes2 g.wakeThreshold
    ++ [byte g.reportMask.bits, byte g.highWater]

/-! ## Strings -/

/-- The string a byte of a payload names; none outside 1 to 8. -/
def stringAt (payload : List Byte) (i : Nat) : Option Str := Str.ofNumber (field payload i)

/-- The strings a list of bytes names; none if one of them names none (R156). -/
def stringsOf : List Byte → Option (List Str)
  | [] => some []
  | b :: rest =>
    match Str.ofNumber b.toNat, stringsOf rest with
    | some n, some ns => some (n :: ns)
    | _, _ => none

end Sys2Proof.Machine
end

