-- ==== Sys2Proof/Machine/Handler.lean ====
section
/-! DEFINITION. The command handler (R166) and the meaning of every command: the common checks, the
command's own rule, and the reply with its status summary (R170). -/

namespace Sys2Proof.Machine

/-! ## Taking a command and replying -/

/-- A reply placed in the slot, with the status summary as it stands now (R166, R170). -/
def reply (kind : Byte) (outcome : ReplyOutcome) (data : List Byte) (s : State) : State :=
  { s with link := { s.link with
    slot := some ⟨kind + 0x40, s.summary0, s.summary1, outcome, data⟩ } }

/-- The handler takes the oldest buffered frame when the slot is empty and no restart is due (R166,
R175), if it is a frame of this step's command; the command is executed as one event. -/
def handle (mine : Frame → Bool) (execute : Frame → State → State) (s : State) : State :=
  match s.link.buffer with
  | [] => s
  | f :: rest =>
    if s.link.slot.isNone && s.modes.restart == .none && mine f then
      execute f { s with link := { s.link with buffer := rest } }
    else s

/-- Whether a frame has this KIND. -/
def isKind (kind : Byte) (f : Frame) : Bool := f.kind == kind

/-- A known command with its common checks (R166): BAD-LENGTH, then WRONG-MODE in START for every
command but IDENT and STATUS, and then its own rule. `lengths`: the LEN the table of R168 gives. -/
def command (lengths : List Nat) (inStart : Bool) (rule : Byte → List Byte → State → State)
    (f : Frame) (s : State) : State :=
  if !lengths.contains (f.payload.length + 1) then reply f.kind .badLength [] s
  else if s.modes.mode = .start && !inStart then reply f.kind .wrongMode [] s
  else rule f.kind f.payload s

/-! ## Identification and status -/

/-- IDENT's data: part code, revision, string count, queue capacity, reset cause record (R168). -/
def identData (s : State) : List Byte := [0x38, 0x0a, 0x41, 8, 32, s.modes.causes.byte]

/-- IDENT (R168): the record is reported as it stands, and then cleared if the option is 1. -/
def identRule (kind : Byte) (payload : List Byte) (s : State) : State :=
  match field payload 0 with
  | 0 => reply kind .taken (identData s) s
  | 1 =>
    let t := reply kind .taken (identData s) s
    { t with modes := { t.modes with causes := ⟨false, false, false, false⟩ } }
  | _ => reply kind (.badField 0) [] s

/-- The code of a voice state (R172). -/
def VoiceState.code : VoiceState → Nat
  | .quiet => 0 | .suspect => 1 | .acquiring => 2 | .sounding => 3 | .silent => 4 | .muted => 5

/-- The two bytes of STATUS for one string (R172). -/
def Channel.statusBytes (c : Channel) : List Byte :=
  [byte (c.voice.state.code + 8 * c.voice.damp.toNat + 16 * c.voice.openCause.toNat
      + 32 * c.pendingFlag.toNat),
   byteOfBits c.clip.active c.clip.latched c.openMarks.active c.openMarks.latched
    false false false false]

/-- STATUS data, 19 bytes (R172). -/
def statusData (s : State) : List Byte :=
  (Str.all.flatMap fun n => (s.channel n).statusBytes)
    ++ [byteOfBits s.backlog.active s.backlog.latched false false false false false false,
        byte s.queue.records.length, byte s.queue.reserved]

/-- STATUS (R168, R172): the data and the summary are reported, and then DROPPED, OVERRUN and
FRAME-ERR are cleared (R133, R169). -/
def statusRule (kind : Byte) (_payload : List Byte) (s : State) : State :=
  let t := reply kind .taken (statusData s) s
  { t with queue := { t.queue with dropped := false },
           link := { t.link with overrun := false, frameErr := false } }

/-! ## The profile store -/

/-- A valid profile staged (R143): the staged profile replaced and the pending flag set. -/
def stage (n : Str) (p : Profile) (s : State) : State :=
  s.mod n fun c => { c with staged := p, pendingFlag := true }

/-- SET-PROFILE (R143): LOCKED, BAD-STRING and BAD-FIELD in this order; then the profile is staged,
and committed at once if the voice is QUIET. -/
def setProfileRule (kind : Byte) (payload : List Byte) (s : State) : State :=
  if s.lock then reply kind .locked [] s
  else
    match stringAt payload 0 with
    | none => reply kind .badString [] s
    | some n =>
      match firstFailing (profileChecks n payload.tail) with
      | some index => reply kind (.badField index) [] s
      | none =>
        let staged := stage n (profileOf payload.tail) s
        if (s.channel n).voice.state = .quiet then
          reply kind .committed [] (commitProfile n staged)
        else reply kind .staged [] staged

/-- GET-PROFILE (R148): the string is checked before the selector. -/
def getProfileRule (kind : Byte) (payload : List Byte) (s : State) : State :=
  match stringAt payload 0 with
  | none => reply kind .badString [] s
  | some n =>
    let c := s.channel n
    match field payload 1 with
    | 0 => reply kind .taken (flagByte c.pendingFlag :: c.active.bytes) s
    | 1 => reply kind .taken (flagByte c.pendingFlag :: c.staged.bytes) s
    | _ => reply kind (.badField 0) [] s

/-- The articulation gate forced CLOSED by a COMMIT, with the re-arm wait if the profile it commits
leaves the string enabled (R56). -/
def forceClosed (n : Str) (s : State) : State :=
  modDetector n
    (fun c => { c.detector.quieted with gate := .closed, rearmWait := c.active.enabled }) s

/-- A forced commit on a string whose pending flag is set (R93): a note ends with RECONFIGURE; a
voice in any state but MUTED enters QUIET, and the profile commits at that entry; a MUTED voice's
profile commits at once. Where the judgement of this frame end came first, the voice takes all its
arrivals before the commit, a velocity completion still to be handed over among them (R55, R56). -/
def forceCommit (n : Str) (s : State) : State :=
  let judged := takeCompletion n s
  let committed :=
    match (judged.channel n).voice.state with
    | .sounding => enterQuiet n (endNote n .reconfigure judged)
    | .quiet | .suspect | .acquiring | .silent => enterQuiet n judged
    | .muted => commitProfile n judged
  forceClosed n committed

/-- COMMIT (R146). -/
def commitRule (kind : Byte) (payload : List Byte) (s : State) : State :=
  match stringAt payload 0 with
  | none => reply kind .badString [] s
  | some n =>
    if (s.channel n).pendingFlag then reply kind .committed [] (forceCommit n s)
    else reply kind .nothing [] s

/-! ## The global settings -/

/-- The global settings replaced, the fields applied in index order within one event (R149). -/
def applyGlobals (g : Globals) (s : State) : State :=
  let damped := changeDampMode g.dampMode s
  updateBacklog { damped with globals := g }

/-- SET-GLOBAL (R149): LOCKED, then the range checks in index order. -/
def setGlobalRule (kind : Byte) (payload : List Byte) (s : State) : State :=
  if s.lock then reply kind .locked [] s
  else
    match firstFailing (globalChecks payload) with
    | some index => reply kind (.badField index) [] s
    | none => reply kind .taken [] (applyGlobals (globalsOf payload) s)

/-- GET-GLOBAL (R148). -/
def getGlobalRule (kind : Byte) (_payload : List Byte) (s : State) : State :=
  reply kind .taken s.globals.bytes s

/-! ## Conditions -/

/-- A latched marker cleared where its active marker is clear (R156). -/
def Markers.cleared (m : Markers) : Markers := if m.active then m else { m with latched := false }

/-- One string's named latched markers cleared (R156). -/
def Channel.clearNamed (kinds : KindSet) (c : Channel) : Channel :=
  { c with clip := if kinds.clip then c.clip.cleared else c.clip,
           openMarks := if kinds.openKind then c.openMarks.cleared else c.openMarks }

/-- The markers a CLEAR-CONDITIONS names (R156): of each named string those of each named kind, and
BACKLOG's if it is named, whatever strings are. -/
def clearMarkers (kinds : KindSet) (strings : List Str) (s : State) : State :=
  let t := forStrings (fun n u => u.mod n (.clearNamed kinds)) strings s
  { t with backlog := if kinds.backlog then t.backlog.cleared else t.backlog }

/-- The strings with a latched marker of one kind, as bit n − 1 for string n (R168). -/
def latchedByte (k : StringKind) (s : State) : Byte :=
  let bit (n : Str) : Bool := ((s.channel n).markers k).latched
  byteOfBits (bit .s1) (bit .s2) (bit .s3) (bit .s4) (bit .s5) (bit .s6) (bit .s7) (bit .s8)

/-- The latched markers that remain, three bytes (R156, R168). -/
def latchedData (s : State) : List Byte :=
  [latchedByte .clip s, latchedByte .openKind s, flagByte s.backlog.latched]

/-- CLEAR-CONDITIONS (R156): the kind set is checked before the strings. -/
def clearConditionsRule (kind : Byte) (payload : List Byte) (s : State) : State :=
  if 7 < field payload 0 then reply kind (.badField 0) [] s
  else
    match stringsOf payload.tail with
    | none => reply kind .badString [] s
    | some strings =>
      let t := clearMarkers (kindSetOf (field payload 0)) strings s
      reply kind .taken (latchedData t) t

/-! ## Events, notes, mute, lock -/

/-- EVENTS (R134). -/
def eventsRule (kind : Byte) (payload : List Byte) (s : State) : State :=
  match field payload 0 with
  | 0 => reply kind .taken [] { s with queue := { s.queue with gateOpen := false } }
  | 1 => reply kind .taken [] { s with queue := { s.queue with gateOpen := true } }
  | _ => reply kind (.badField 0) [] s

/-- A voice at a FLUSH (R92): a note ends with NOTE-OFF(FLUSH) if reported, an acquisition or a
suspicion is abandoned; the voice asks its detector for the gate (R55) and is SILENT, for the gate
of such a voice is not CLOSED (R61). -/
def flushVoice (n : Str) (s : State) : State :=
  let settle (t : State) : State :=
    if (t.channel n).detector.gate = .closed then enterQuiet n t else t.mod n (.entering .silent)
  match (s.channel n).voice.state with
  | .sounding => settle (endNote n .flush s)
  | .acquiring | .suspect => settle s
  | .quiet | .silent | .muted => s

/-- FLUSH (R92): the voices of strings 1 to 8 in ascending order. -/
def flushRule (kind : Byte) (_payload : List Byte) (s : State) : State :=
  reply kind .taken [] (forStrings flushVoice Str.all s)

/-- RELEASE-DAMP (R90): under LATCH with the debounced level deasserted a set latch is cleared and
the mute ends; otherwise refused with WRONG-STATE. -/
def releaseDampRule (kind : Byte) (_payload : List Byte) (s : State) : State :=
  if s.globals.dampMode = .latch && !s.mute.debounced then
    if s.mute.latch then reply kind .taken [] (setDampMute false (setLatch false s))
    else reply kind .taken [] s
  else reply kind .wrongState [] s

/-- LOCK (R150). -/
def lockRule (kind : Byte) (_payload : List Byte) (s : State) : State :=
  reply kind .taken [] { s with lock := true }

/-! ## Modes -/

/-- DOZE or WAKE, KIND 0Dh (R168, R176, R177): doze entry in RUN under operand 0, the wake in DOZE
under operand 1, TAKEN with no change otherwise; another operand is refused with BAD-FIELD 0. -/
def dozeWakeRule (kind : Byte) (payload : List Byte) (s : State) : State :=
  match field payload 0 with
  | 0 => reply kind .taken [] (if s.modes.mode = .run then enterDoze s else s)
  | 1 => reply kind .taken [] (if s.modes.mode = .doze then wakeByCommand s else s)
  | _ => reply kind (.badField 0) [] s

/-- RESTART (R175): LOCKED while LOCK is set; otherwise the reply is placed and a restart is due. -/
def restartRule (kind : Byte) (_payload : List Byte) (s : State) : State :=
  if s.lock then reply kind .locked [] s
  else
    let t := reply kind .taken [] s
    { t with modes := { t.modes with restart := .due } }

/-! ## READ-VOICE -/

/-- A value of one byte, FFh where it is absent (R172). -/
def optional1 (x : Option Nat) : Byte :=
  match x with
  | some x => byte x
  | none => 0xff

/-- A value of two bytes, FFFFh where it is absent (R172). -/
def optional2 (x : Option Nat) : List Byte :=
  match x with
  | some x => bytes2 x
  | none => [0xff, 0xff]

/-- The code of a start kind (R172). -/
def StartKind.code : StartKind → Nat
  | .normal => 0 | .provisional => 1 | .unpitched => 2

/-- An estimate as kind and pitch; kind 0 and pitch 0 where there is none (R172). -/
def estimateBytes (e : Option Estimate) : List Byte :=
  match e with
  | none => 0 :: bytes2 0
  | some ⟨.full, pitch⟩ => 1 :: bytes2 pitch
  | some ⟨.provisional, pitch⟩ => 2 :: bytes2 pitch

/-- A step candidate as count and pitch; 0 and 0 where there is none (R172). -/
def candidateBytes (x : Option Candidate) : List Byte :=
  match x with
  | none => 0 :: bytes2 0
  | some x => byte x.count :: bytes2 x.pitch

/-- The code of an articulation gate (R172). -/
def Gate.code : Gate → Nat
  | .closed => 0 | .opened => 1 | .dip => 2

/-- The READ-VOICE snapshot, 26 bytes (R41, R60, R96, R107, R172). -/
def snapshot (n : Str) (c : Channel) : List Byte :=
  let v := c.voice
  [stringByte n, byte v.state.code,
    byteOfBits v.damp v.openCause v.lost v.acqExpired v.reported v.fix c.detector.rearmWait false,
    v.serial, optional1 v.baseNote]
  ++ optional2 v.currentPitch
  ++ [optional1 (v.startKind.map StartKind.code), byte (v.velocity.getD 0)]
  ++ estimateBytes v.held ++ candidateBytes v.candidate
  ++ bytes2 (v.lostTimer.getD 0) ++ optional2 v.acqTimer ++ [optional1 c.bleed.timer]
  ++ [byte c.detector.gate.code, byte c.detector.remaining, byte c.capture.ring.length]
  ++ estimateBytes c.capture.lastEstimate

/-- READ-VOICE (R96). -/
def readVoiceRule (kind : Byte) (payload : List Byte) (s : State) : State :=
  match stringAt payload 0 with
  | none => reply kind .badString [] s
  | some n => reply kind .taken (snapshot n (s.channel n)) s

/-! ## The steps -/

/-- A frame of KIND 0Dh but for one whose operand is the other command's. -/
def isDozeWake (other : Byte) (f : Frame) : Bool := f.kind == 0x0d && f.payload != [other]

/-- A frame whose KIND is no command (R166). -/
def isUnknown (f : Frame) : Bool := !(within 1 15 f.kind.toNat)

/-- The UNKNOWN-KIND refusal: KIND 40h, with the received KIND as its data (R166). -/
def refuseUnknown (f : Frame) (s : State) : State := reply 0 .unknownKind [f.kind] s

/-- IDENT (R168). -/
def execIdent (s : State) : Host.Outcome State Fault Refusal :=
  .next (s.live (handle (isKind 0x01) (command [2] true identRule)))

/-- STATUS (R172). -/
def execStatus (s : State) : Host.Outcome State Fault Refusal :=
  .next (s.live (handle (isKind 0x02) (command [1] true statusRule)))

/-- SET-PROFILE (R143). -/
def execSetProfile (s : State) : Host.Outcome State Fault Refusal :=
  .next (s.live (handle (isKind 0x03) (command [45] false setProfileRule)))

/-- GET-PROFILE (R148). -/
def execGetProfile (s : State) : Host.Outcome State Fault Refusal :=
  .next (s.live (handle (isKind 0x04) (command [3] false getProfileRule)))

/-- COMMIT (R146). -/
def execCommit (s : State) : Host.Outcome State Fault Refusal :=
  .next (s.live (handle (isKind 0x05) (command [2] false commitRule)))

/-- SET-GLOBAL (R149). -/
def execSetGlobal (s : State) : Host.Outcome State Fault Refusal :=
  .next (s.live (handle (isKind 0x06) (command [7] false setGlobalRule)))

/-- GET-GLOBAL (R148). -/
def execGetGlobal (s : State) : Host.Outcome State Fault Refusal :=
  .next (s.live (handle (isKind 0x07) (command [1] false getGlobalRule)))

/-- CLEAR-CONDITIONS (R156). -/
def execClearConditions (s : State) : Host.Outcome State Fault Refusal :=
  .next (s.live (handle (isKind 0x08)
    (command [2, 3, 4, 5, 6, 7, 8, 9, 10] false clearConditionsRule)))

/-- EVENTS (R134). -/
def execEvents (s : State) : Host.Outcome State Fault Refusal :=
  .next (s.live (handle (isKind 0x09) (command [2] false eventsRule)))

/-- FLUSH (R92). -/
def execFlush (s : State) : Host.Outcome State Fault Refusal :=
  .next (s.live (handle (isKind 0x0a) (command [1] false flushRule)))

/-- RELEASE-DAMP (R90). -/
def execReleaseDamp (s : State) : Host.Outcome State Fault Refusal :=
  .next (s.live (handle (isKind 0x0b) (command [1] false releaseDampRule)))

/-- LOCK (R150). -/
def execLock (s : State) : Host.Outcome State Fault Refusal :=
  .next (s.live (handle (isKind 0x0c) (command [1] false lockRule)))

/-- DOZE (R176): a frame of KIND 0Dh that does not spell WAKE (log 12). -/
def execDoze (s : State) : Host.Outcome State Fault Refusal :=
  .next (s.live (handle (isDozeWake 1) (command [2] false dozeWakeRule)))

/-- WAKE (R177): a frame of KIND 0Dh that does not spell DOZE (log 12). -/
def execWake (s : State) : Host.Outcome State Fault Refusal :=
  .next (s.live (handle (isDozeWake 0) (command [2] false dozeWakeRule)))

/-- READ-VOICE (R96). -/
def execReadVoice (s : State) : Host.Outcome State Fault Refusal :=
  .next (s.live (handle (isKind 0x0e) (command [2] false readVoiceRule)))

/-- RESTART (R175). -/
def execRestart (s : State) : Host.Outcome State Fault Refusal :=
  .next (s.live (handle (isKind 0x0f) (command [1] false restartRule)))

/-- UNKNOWN-KIND (R166). -/
def execUnknownKind (s : State) : Host.Outcome State Fault Refusal :=
  .next (s.live (handle isUnknown refuseUnknown))

end Sys2Proof.Machine
end

