-- ==== Sys2Proof/Machine/Frames.lean ====
section
/-! DEFINITION. The passage of time: what every block does at a frame end (FRAME_END), and a
conversion instant (SAMPLE), before which everything due at the instant before it is taken. -/

namespace Sys2Proof.Machine

/-! ## FRAME_END -/

/-- A string at a frame end in RUN: the lane (R3, R10 to R14), the age count (R24), the voice's timers
(R62), the reporter's slew step or its boundary (R110, R115) and the retrigger drop (R121). A SUSPECT
voice's per-frame step (R102) and an enabled string's judgement (R42) are then owed. -/
def Channel.runFrameEnd (c : Channel) : Channel :=
  let t := ((c.laneFrameEnd .run).voiceFrameEnd).reporterFrameEnd
  { t with capture := t.capture.frameEnd,
           bleed := { t.bleed with stepDue := t.voice.state == .suspect },
           gateLine := t.gateLine.frameEnd,
           detector := { t.detector with judgementDue := t.active.enabled } }

/-- A string at a frame end: in START and in DOZE only its lane works (R173, R176). -/
def Channel.frameEnd (mode : Mode) (c : Channel) : Channel :=
  match mode with
  | .start | .doze => c.laneFrameEnd mode
  | .run => c.runFrameEnd

/-- The part is idle, as its idle timer sees it: every enabled voice QUIET, the event queue empty and
the reply slot empty (R176). -/
def State.isIdle (s : State) : Bool :=
  !(s.anyString fun c => c.active.enabled && c.voice.state != .quiet)
    && s.queue.records.isEmpty && s.link.slot.isNone

/-- The idle timer at a frame end in RUN (R176): 0 under doze idle code 0 or when the part is not
idle; otherwise it rises, and doze entry is due when it reaches the doze idle time. -/
def idleFrameEnd (s : State) : State :=
  if s.globals.dozeIdleCode = 0 || !s.isIdle then
    { s with modes := { s.modes with idle := 0, idleDue := false } }
  else
    let limit := dozeIdleTime s.globals.dozeIdleCode
    { s with modes := { s.modes with idle := tick limit s.modes.idle,
                                     idleDue := limit ≤ s.modes.idle + 1 } }

/-- The mode controller and the mute logic at a frame end: the settle timer in START (R173); the idle
timer (R176) and the sampling of the DAMP pin (R88) in RUN; in DOZE the wake detection is owed
(R177). -/
def modeFrameEnd (damp : Bool) (s : State) : State :=
  match s.modes.mode with
  | .start =>
    { s with modes := { s.modes with settle := tick startFrames s.modes.settle },
             mute := { s.mute with pin := damp } }
  | .run =>
    let t := idleFrameEnd s
    { t with mute := t.mute.sample damp }
  | .doze =>
    { s with modes := { s.modes with wakeDue := true }, mute := { s.mute with pin := damp } }

/-- FRAME_END: after the eighth sample of a frame, and once (R1, R10). The blocks of every string, the
inter-byte timer (R164), and the mode controller with the mute logic. -/
def takeFrameEnd (damp : Bool) (s : State) : State :=
  if s.atFrameEnd then
    let t := s.modAll (Channel.frameEnd s.modes.mode)
    modeFrameEnd damp { t with frameSamples := 0, link := t.link.frameEnd }
  else s

/-- FRAME_END (R10). -/
def execFrameEnd (damp : Bool) (s : State) : Host.Outcome State Fault Refusal :=
  .next (s.live (takeFrameEnd damp))

/-! ## SAMPLE -/

/-- The detectors' changes of this instant that the sender has left out: CLIP, OPEN, the gates and the
velocities. -/
def settleDetection (s : State) : State :=
  let conditions := forStrings (fun n t => openBecomesActive n (openBecomesInactive n (endClip n t)))
    Str.all s
  forStrings (fun n t => takeCompletion n (judge n t)) Str.all conditions

/-- The voices' expiries of this instant that the sender has left out, then the reporters' and the
gate lines'. -/
def settleTimers (s : State) : State :=
  let voices := forStrings
    (fun n t => expireLost n (expireStall n (expireAcquisition n (bleedStep n t)))) Str.all s
  forStrings (fun n t => expireDrop n (takeBoundary n t)) Str.all voices

/-- What the mute logic and the mode controller still owe at this instant, with the velocities that the
ONSETs of a wake complete at once. -/
def settleModes (s : State) : State :=
  forStrings takeCompletion Str.all
    (wakeByString [] (idleDoze (dampDeasserted (dampAsserted s))))

/-- The end of the frame and what follows it at the same instant, where the sender has left it out; the
DAMP pin keeps its level (log 5). -/
def settleFrame (s : State) : State := byteTimeout (endStart (takeFrameEnd s.mute.pin s))

/-- A restart whose reply frame has ended takes effect, with the straps as last read, where the sender has
left RESTART_RESET out. While the reply waits or is in transmission tracking goes on (R175). -/
def settleRestart (s : State) : State :=
  if s.modes.restart = .replySent then restartReset s.link.straps s else s

/-- Before a conversion instant everything that is due at the instant before it is taken: nothing waits
from one instant to the next (R62). The sender takes such steps in the order it chooses; what it has
left out is taken here, in a fixed order (log 4). The handler and the transmitter take what waits for
them when the sender says (log 7). -/
def settle (s : State) : State :=
  let estimated := forStrings (fun n t => takeEstimate n (takeCrossing n t)) Str.all (settleRestart s)
  settleModes (settleTimers (settleDetection (settleFrame estimated)))

/-- SAMPLE (R1, R4). -/
def execSample (signals : Eight Int) (order : List Str) (s : State) :
    Host.Outcome State Fault Refusal :=
  .next (s.live fun s => takeSample signals order (settle s))

end Sys2Proof.Machine
end

