-- ==== Sys2Proof/Machine/Dispatch.lean ====
section
/-! DEFINITION. The meaning of every step: one arm per constructor of `Instr`. -/

namespace Sys2Proof.Machine

def exec (i : Instr) (s : State) : Host.Outcome State Fault Refusal :=
  match i with
  | .ident => Sys2Proof.Machine.execIdent s
  | .status => Sys2Proof.Machine.execStatus s
  | .setProfile => Sys2Proof.Machine.execSetProfile s
  | .getProfile => Sys2Proof.Machine.execGetProfile s
  | .commit => Sys2Proof.Machine.execCommit s
  | .setGlobal => Sys2Proof.Machine.execSetGlobal s
  | .getGlobal => Sys2Proof.Machine.execGetGlobal s
  | .clearConditions => Sys2Proof.Machine.execClearConditions s
  | .events => Sys2Proof.Machine.execEvents s
  | .flush => Sys2Proof.Machine.execFlush s
  | .releaseDamp => Sys2Proof.Machine.execReleaseDamp s
  | .lock => Sys2Proof.Machine.execLock s
  | .doze => Sys2Proof.Machine.execDoze s
  | .wake => Sys2Proof.Machine.execWake s
  | .readVoice => Sys2Proof.Machine.execReadVoice s
  | .restart => Sys2Proof.Machine.execRestart s
  | .unknownKind => Sys2Proof.Machine.execUnknownKind s
  | .receivedByte byte stopHigh => Sys2Proof.Machine.execReceivedByte byte stopHigh s
  | .interByteTimeout => Sys2Proof.Machine.execInterByteTimeout s
  | .transmitTake => Sys2Proof.Machine.execTransmitTake s
  | .frameSent => Sys2Proof.Machine.execFrameSent s
  | .restartReset straps => Sys2Proof.Machine.execRestartReset straps s
  | .powerOn straps => Sys2Proof.Machine.execPowerOn straps s
  | .resetN => Sys2Proof.Machine.execResetN s
  | .supplyDrop straps => Sys2Proof.Machine.execSupplyDrop straps s
  | .startEnd => Sys2Proof.Machine.execStartEnd s
  | .sample signals order => Sys2Proof.Machine.execSample signals order s
  | .crossing n => Sys2Proof.Machine.execCrossing n s
  | .estimate n => Sys2Proof.Machine.execEstimate n s
  | .frameEnd damp => Sys2Proof.Machine.execFrameEnd damp s
  | .clipEnd n => Sys2Proof.Machine.execClipEnd n s
  | .openActive n => Sys2Proof.Machine.execOpenActive n s
  | .openEnd n => Sys2Proof.Machine.execOpenEnd n s
  | .articulationJudgement n => Sys2Proof.Machine.execArticulationJudgement n s
  | .releaseHoldExpiry n => Sys2Proof.Machine.execReleaseHoldExpiry n s
  | .velocityCompletion n => Sys2Proof.Machine.execVelocityCompletion n s
  | .bleedPerFrameStep n => Sys2Proof.Machine.execBleedPerFrameStep n s
  | .bleedWindowExpiry n => Sys2Proof.Machine.execBleedWindowExpiry n s
  | .acquisitionExpiry n => Sys2Proof.Machine.execAcquisitionExpiry n s
  | .stallExpiry n => Sys2Proof.Machine.execStallExpiry n s
  | .lostLimitExpiry n => Sys2Proof.Machine.execLostLimitExpiry n s
  | .glideBoundary n => Sys2Proof.Machine.execGlideBoundary n s
  | .retriggerDropExpiry n => Sys2Proof.Machine.execRetriggerDropExpiry n s
  | .dampAssertion => Sys2Proof.Machine.execDampAssertion s
  | .dampDeassertion => Sys2Proof.Machine.execDampDeassertion s
  | .idleDoze => Sys2Proof.Machine.execIdleDoze s
  | .wakeByString order => Sys2Proof.Machine.execWakeByString order s
  | .resetNReleased straps => Sys2Proof.Machine.execResetNReleased straps s

end Sys2Proof.Machine
end

