-- ==== Sys2Proof/Safety.lean ====
section
/-! DEFINITION. What it means for a state of the part to be sound: the laws of the device the spec
states (R23, R43, R61, R89, R118, R127, R130, R145, R152), the forms it gives the voice's context
and the reporter, and what it says of START and of a disabled string. -/

namespace Sys2Proof.Machine

/-! ## Profiles and settings -/

/-- A glide mode of R140. -/
def GlideMode.valid : GlideMode → Bool
  | .onEstimate => true
  | .periodic interval => [1, 2, 4, 8].contains interval

/-- An association entry of string `n` (R98, R140): another string, at a ratio of 1 to 64. -/
def Association.valid (n : Str) (a : Association) : Bool := a.source != n && within 1 64 a.ratio

/-- No two entries name one source (R98, R142). -/
def distinctSources : List Association → Bool
  | [] => true
  | a :: rest => rest.all (fun b => a.source != b.source) && distinctSources rest

/-- The ranges of R140 and the cross checks of R142, for a profile of string `n`. -/
structure Profile.Valid (n : Str) (p : Profile) : Prop where
  openNote : 12 ≤ p.openNote ∧ p.openNote ≤ 100
  span : 12 ≤ p.span ∧ p.span ≤ 36
  downAllowance : p.downAllowance ≤ 5 ∧ 12 + p.downAllowance ≤ p.openNote
  bendRange : 1 ≤ p.bendRange ∧ p.bendRange ≤ 24 ∧ p.openNote + p.span + p.bendRange ≤ 112
  gainCode : p.gainCode ≤ 7
  bandCode : p.bandCode ≤ 7
  hysteresis : p.hysteresis ≤ 255
  persistence : 1 ≤ p.persistence ∧ p.persistence ≤ 4
  decayStep : 1 ≤ p.decayStep ∧ p.decayStep ≤ 255
  edgeSpanCode : p.edgeSpanCode ≤ 3
  attackGuard : p.attackGuard ≤ 7
  toleranceCode : 1 ≤ p.toleranceCode ∧ p.toleranceCode ≤ 8
  onThreshold : 1 ≤ p.onThreshold ∧ p.onThreshold ≤ 2047
  offThreshold : p.offThreshold ≤ p.onThreshold
  dipMin : p.dipMin < p.dipMax
  dipMax : p.dipMax ≤ 255
  releaseHoldCode : p.releaseHoldCode ≤ 10 ∧ p.dipMax < releaseHold p.releaseHoldCode
  surgeRatio : p.surgeRatio = 0 ∨ (10 ≤ p.surgeRatio ∧ p.surgeRatio ≤ 32)
  surgeWindow : 2 ≤ p.surgeWindow ∧ p.surgeWindow ≤ 16
  surgeRefractory : 4 ≤ p.surgeRefractory ∧ p.surgeRefractory ≤ 255
  velocityWindow : 1 ≤ p.velocityWindow ∧ p.velocityWindow ≤ 16
  velocityReference : 64 ≤ p.velocityReference ∧ p.velocityReference ≤ 2048
  acquisitionLimit : 8 ≤ p.acquisitionLimit ∧ p.acquisitionLimit ≤ 255
    ∧ p.velocityWindow ≤ p.acquisitionLimit
  stepThreshold : 16 ≤ p.stepThreshold ∧ p.stepThreshold ≤ 96
  stepHold : 1 ≤ p.stepHold ∧ p.stepHold ≤ 4
  lostLimit : 4 ≤ p.lostLimit ∧ p.lostLimit ≤ 1023
  associations : p.associations.length ≤ 2 ∧ p.associations.all (Association.valid n) = true
    ∧ distinctSources p.associations = true
  bleedWindow : 1 ≤ p.bleedWindow ∧ p.bleedWindow ≤ 255
  glideMode : p.glideMode.valid = true
  deadband : p.deadband ≤ 15
  slew : p.slew ≤ 255
  retriggerDrop : 1 ≤ p.retriggerDrop ∧ p.retriggerDrop ≤ 63

/-- The ranges of R149. -/
structure Globals.Valid (g : Globals) : Prop where
  dozeIdleCode : g.dozeIdleCode ≤ 15
  wakeThreshold : 1 ≤ g.wakeThreshold ∧ g.wakeThreshold ≤ 2047
  highWater : 8 ≤ g.highWater ∧ g.highWater ≤ 31

/-- Every profile and the global settings satisfy their constraints (R145), and a staged profile
differs from the active one only while it is pending (R140). -/
structure SettingsLaw (s : State) : Prop where
  active : ∀ n, (s.channel n).active.Valid n
  staged : ∀ n, (s.channel n).staged.Valid n
  copied : ∀ n, (s.channel n).pendingFlag = false → (s.channel n).staged = (s.channel n).active
  globals : s.globals.Valid

/-! ## Capture -/

/-- A ring under its limits (R23): at most 16 entries, any two consecutive ones from Pmin to Pmax
apart. -/
def ringLawful (pmin pmax : Nat) (ring : List Stamp) : Prop :=
  ring.length ≤ 16 ∧ ∀ d ∈ intervals ring, pmin ≤ d ∧ d ≤ pmax

/-- The capture unit of a string: its limits are those of the active profile (R21), its ring is lawful
under them (R23), the ring is empty while crossings are set aside (R25), and the age count is 0 while
it is empty (R24). -/
structure Channel.CaptureLaw (c : Channel) : Prop where
  pmin : c.capture.pmin = c.active.pmin
  pmax : c.capture.pmax = c.active.pmax
  ring : ringLawful c.active.pmin c.active.pmax c.capture.ring
  guarded : 0 < c.capture.guard → c.capture.ring = []
  age : c.capture.ring = [] → c.capture.age = 0
  ageBound : c.capture.age ≤ 256

/-- The law of every capture unit. -/
def CaptureLaw (s : State) : Prop := ∀ n, (s.channel n).CaptureLaw

/-- Every sample stamp is a multiple of 128 (R18). -/
def TimebaseLaw (s : State) : Prop := s.timebase.toNat % 128 = 0

/-! ## Conditions -/

/-- An active marker has its latched marker set (R152); a pair whose active marker is clear has its
end mark clear (R154). -/
def Markers.lawful (m : Markers) : Prop :=
  (m.active = true → m.latched = true) ∧ (m.endMark = true → m.active = true)

/-- The law of every pair of markers. -/
def ConditionLaw (s : State) : Prop :=
  (∀ n, (s.channel n).clip.lawful ∧ (s.channel n).openMarks.lawful) ∧ s.backlog.lawful

/-! ## The queue -/

/-- The slots a voice holds (R127): one for the NOTE-OFF of a reported note, one for the PITCH-FIX of
a fix reservation. -/
def Voice.slots (v : Voice) : Nat := v.reported.toNat + v.fix.toNat

/-- The slots all voices hold. -/
def State.slotsHeld (s : State) : Nat :=
  (s.channel .s1).voice.slots + (s.channel .s2).voice.slots + (s.channel .s3).voice.slots
    + (s.channel .s4).voice.slots + (s.channel .s5).voice.slots + (s.channel .s6).voice.slots
    + (s.channel .s7).voice.slots + (s.channel .s8).voice.slots

/-- The law of R127: occupancy and the reservation total never exceed 32, and the reservation total is
the number of reported voices plus the number of fix reservations. -/
structure QueueLaw (s : State) : Prop where
  capacity : s.queue.commitment ≤ queueCapacity
  account : s.queue.reserved = s.slotsHeld

/-- BACKLOG is active exactly while the commitment is at or above the high-water setting (R136). -/
def BacklogLaw (s : State) : Prop := s.backlog.active = s.backlogNow

/-- The queue never holds two GLIDE records for one string (R130). -/
def OneGlideLaw (s : State) : Prop :=
  ∀ n, (s.queue.records.filter (Record.isGlideOf n)).length ≤ 1

/-- The queued note records of string `n` read in order (R63), from `opened`, the serial of a note whose
NOTE-ON has gone before and whose NOTE-OFF has not: NOTE-ON and NOTE-OFF alternate, each pair with one
serial, and a GLIDE or a PITCH-FIX stands between the two records of its serial. What is open at the
end; none if the order is broken. -/
def readNotes (n : Str) : List Record → Option Byte → Option (Option Byte)
  | [], opened => some opened
  | r :: rest, opened =>
    match r with
    | .noteOn m serial _ _ _ _ =>
      if m = n then (if opened = none then readNotes n rest (some serial) else none)
      else readNotes n rest opened
    | .noteOff m serial _ =>
      if m = n then (if opened = some serial then readNotes n rest none else none)
      else readNotes n rest opened
    | .glide m serial _ =>
      if m = n then (if opened = some serial then readNotes n rest opened else none)
      else readNotes n rest opened
    | .pitchFix m serial _ _ =>
      if m = n then (if opened = some serial then readNotes n rest opened else none)
      else readNotes n rest opened
    | .condition _ _ => readNotes n rest opened
    | .notice _ => readNotes n rest opened

/-- The law of R63, on the records still queued: they stand in order, and a note is left open at the end
exactly for a reported voice, with its serial. -/
def NoteOrderLaw (s : State) : Prop :=
  ∀ n, ∃ opened, readNotes n s.queue.records opened
    = some (if (s.channel n).voice.reported then some (s.channel n).voice.serial else none)

/-! ## Voice, gate and line -/

/-- What a voice's context holds in its state (section 4.1): a note in force exactly in SOUNDING (R61), a
pitch learned in ACQUIRING exactly under a start kind of one (R69, R71), its timers in the states that own
them, and a mute cause exactly in MUTED (R85). -/
structure Voice.Lawful (v : Voice) : Prop where
  note : v.baseNote.isSome = true ↔ v.state = .sounding
  muted : v.hasCause = true ↔ v.state = .muted
  reported : v.reported = true → v.state = .sounding
  fix : v.fix = true → v.reported = true
  startKind : v.state = .sounding → v.startKind.isSome = true
  learned : v.state = .acquiring →
    (v.currentPitch.isSome = true ↔ v.startKind = some .normal ∨ v.startKind = some .provisional)
  pitched : v.state = .sounding → (v.currentPitch.isSome = true ↔ v.startKind ≠ some .unpitched)
  velocity : v.state = .sounding → v.velocity.isSome = true
  stallTimer : v.stallTimer.isSome = true ↔ v.state = .sounding
  lost : v.lost = true → v.state = .sounding
  lostTimer : v.lostTimer.isSome = v.lost
  acqTimer : v.acqTimer.isSome = true ↔ v.state = .acquiring
  acqExpired : v.acqExpired = true → v.state = .acquiring
  held : v.held.isSome = true → v.state = .suspect
  candidate : v.candidate.isSome = true → v.state = .sounding
  bare : v.state = .quiet ∨ v.state = .silent ∨ v.state = .muted → v = v.entering v.state

/-- The relation of the voice to its gate (R43, R61). -/
def Channel.gateLawful (c : Channel) : Prop :=
  (c.voice.state = .quiet → c.detector.gate = .closed)
    ∧ (c.voice.state ≠ .quiet → c.voice.state ≠ .muted → c.detector.gate ≠ .closed)

/-- The gate level is HIGH exactly while the voice is SOUNDING and no retrigger drop runs (R118 to
R121). -/
def Channel.lineLawful (c : Channel) : Prop :=
  c.gateLine.high = (c.voice.state == .sounding && c.gateLine.drop.isNone)

/-- The reporter's items are present where R110, R114 and R115 say. -/
structure Channel.ReporterLaw (c : Channel) : Prop where
  output : c.reporter.output.isSome = true
    ↔ c.voice.state = .sounding ∧ c.voice.startKind ≠ some .unpitched
  lastReported : c.reporter.lastReported.isSome = true ↔ c.voice.state = .sounding
  schedule : c.reporter.schedule.isSome = true
    ↔ c.voice.state = .sounding ∧ c.active.glideMode ≠ .onEstimate

/-- What a disabled string is (R9, R13, R14, R40, R58, R61, R122, R159): its voice QUIET with no mute
cause, its gate CLOSED with no re-arm wait and nothing to judge, its ring empty with nothing on its
way, its detectors of conditions inactive with their counts at 0, its line LOW with no drop. -/
structure Channel.DisabledLaw (c : Channel) : Prop where
  voice : c.voice.state = .quiet ∧ c.voice.hasCause = false
  detector : c.detector.rearmWait = false ∧ c.detector.judgementDue = false
    ∧ c.detector.completion = none
  capture : c.capture.ring = [] ∧ c.capture.handed = none ∧ c.capture.delivered = none
  counts : c.lane.clipQuiet = 0 ∧ c.lane.openHold = 0 ∧ c.lane.openRelease = 0
  crossing : c.lane = c.lane.clearCrossing
  markers : c.clip = .clear ∧ c.openMarks = .clear
  line : c.gateLine.high = false ∧ c.gateLine.drop = none

/-- What every string is. -/
structure Channel.Lawful (c : Channel) : Prop where
  voice : c.voice.Lawful
  gate : c.gateLawful
  line : c.lineLawful
  reporter : c.ReporterLaw
  bleed : c.bleed.timer.isSome = true ↔ c.voice.state = .suspect
  openMute : c.voice.openCause = c.openMarks.active
  disabled : c.active.enabled = false → c.DisabledLaw

/-- The law of every string. -/
def ChannelLaw (s : State) : Prop := ∀ n, (s.channel n).Lawful

/-! ## The damp mute -/

/-- When the damp mute is in force under each damp mode (the table of R89), and the DAMP cause: with
every enabled voice while it is in force, with no voice otherwise. -/
structure DampLaw (s : State) : Prop where
  off : s.globals.dampMode = .off → s.mute.inForce = false ∧ s.mute.latch = false
  follow : s.globals.dampMode = .follow → s.mute.inForce = s.mute.debounced ∧ s.mute.latch = false
  latched : s.globals.dampMode = .latch → s.mute.inForce = s.mute.latch
  cause : ∀ n, (s.channel n).voice.damp = (s.mute.inForce && (s.channel n).active.enabled)

/-! ## Modes -/

/-- START (R2, R15, R17, R39, R59, R97, R108, R124, R137, R160, R173): every block stands at its reset
values but for the START accumulators, the settle timer and the frame in progress. -/
structure StartForm (s : State) : Prop where
  channels : ∀ n, s.channel n
    = { Channel.reset (s.channel n).active (s.channel n).staged (s.channel n).pendingFlag with
        lane := { Lane.reset with startSum := (s.channel n).lane.startSum } }
  lock : s.lock = false
  timebase : s.timebase = 0 ∧ s.timebaseRunning = false
  queue : s.queue = .reset
  backlog : s.backlog = .clear
  mute : s.mute = .reset s.mute.pin
  idle : s.modes.idle = 0 ∧ s.modes.idleDue = false ∧ s.modes.wakeDue = false
    ∧ s.modes.restart = .none

/-- The law of START. -/
def StartLaw (s : State) : Prop := s.modes.mode = .start → StartForm s

/-- What a string is in DOZE (R15, R38, R57, R94, R123, R176): its voice QUIET or MUTED, its gate CLOSED
with nothing to judge, its ring empty with nothing on its way, its crossing path cleared, its line LOW
with no drop. -/
structure Channel.DozeForm (c : Channel) : Prop where
  voice : c.voice.state = .quiet ∨ c.voice.state = .muted
  detector : c.detector.gate = .closed ∧ c.detector.judgementDue = false
    ∧ c.detector.completion = none
  capture : c.capture.ring = [] ∧ c.capture.handed = none ∧ c.capture.delivered = none
  crossing : c.lane = c.lane.clearCrossing
  line : c.gateLine.high = false ∧ c.gateLine.drop = none

/-- The law of DOZE. -/
def DozeLaw (s : State) : Prop :=
  s.modes.mode = .doze → s.modes.idleDue = false ∧ ∀ n, (s.channel n).DozeForm

/-- Outside START, a voice with its pending flag set is never QUIET (R144). -/
def PendingLaw (s : State) : Prop :=
  s.modes.mode ≠ .start →
    ∀ n, (s.channel n).pendingFlag = true → (s.channel n).voice.state ≠ .quiet

/-! ## The link and the clock of frames -/

/-- The receiver's partial frame in each of its states (R163), the bounds of the input buffer (R165) and of
the inter-byte timer (R164), and the reply of a RESTART in transmission: the restart it answers is due for as
long as it is sent (R175). That the timer holds 0 in HUNT is the model's choice (log 37), and so is the mark
that a frame in transmission carries (log 11). -/
structure LinkLaw (s : State) : Prop where
  hunt : s.link.rxState = .hunt → s.link.rxBody = [] ∧ s.link.rxTimer = 0
  length : s.link.rxState = .length → s.link.rxBody = []
  body : s.link.rxState = .body → s.link.rxBody.length < s.link.rxLength ∧ s.link.rxLength ≤ 48
  check : s.link.rxState = .check → s.link.rxBody.length = s.link.rxLength
    ∧ 1 ≤ s.link.rxLength ∧ s.link.rxLength ≤ 48
  timer : s.link.rxTimer ≤ 9
  buffer : s.link.buffer.length ≤ 2
  restartReply : ∀ bytes, s.link.tx = .sending bytes true → s.modes.restart = .due

/-- A frame has eight samples (R1), and START has 512 frames (R173). -/
def FrameLaw (s : State) : Prop := s.frameSamples ≤ 8 ∧ s.modes.settle ≤ startFrames

/-! ## What a step leaves as it stands -/

/-- The shared registers outside the queue and the strings are the same in both states. -/
structure Outside (s t : State) : Prop where
  globals : t.globals = s.globals
  lock : t.lock = s.lock
  timebase : t.timebase = s.timebase
  timebaseRunning : t.timebaseRunning = s.timebaseRunning
  frameSamples : t.frameSamples = s.frameSamples
  mute : t.mute = s.mute
  link : t.link = s.link
  modes : t.modes = s.modes
  pending : t.pending = s.pending

/-- Only the queue, the BACKLOG markers and DROPPED can differ. -/
structure QueueOnly (s t : State) : Prop where
  outside : Outside s t
  channels : t.channels = s.channels

/-- Only the queue's registers and string `n` can differ. -/
structure OnlyString (n : Str) (s t : State) : Prop where
  outside : Outside s t
  others : ∀ m, m ≠ n → t.channel m = s.channel m

/-- A report of BACKLOG, which the queue may add behind a record it admits (R136, R155). -/
def Record.isBacklog : Record → Bool
  | .condition .backlog _ => true
  | .condition (.string _ _) _ | .noteOn .. | .noteOff .. | .glide .. | .pitchFix ..
  | .notice _ => false

/-- The records `rs` have joined the list in this order, with nothing but reports of BACKLOG behind
them; the event gate stands (R134). -/
def Joined (s t : State) (rs : List Record) : Prop :=
  (∃ extra, t.queue.records = s.queue.records ++ rs ++ extra ∧ extra.all Record.isBacklog = true)
  ∧ t.queue.gateOpen = s.queue.gateOpen

/-- What the comparison with the high-water setting leaves of the queue and the BACKLOG markers (R136, R152 to
R155), `q` and `b` being those that a change of the commitment or of the setting has left. A result that agrees
with the active marker changes nothing. One that rises sets both markers, and where the marker latches now under
the report mask offers CONDITION(BACKLOG, yes): admitted, it sets the end mark; refused, it sets DROPPED. One
that falls clears the active marker and the end mark, and where the end mark was set offers, under the mask,
CONDITION(BACKLOG, no), which may itself bring the commitment back to the setting. -/
def BacklogReported (g : Globals) (q : Queue) (b : Markers) (q' : Queue) (b' : Markers) : Prop :=
  let reached (k : Nat) : Prop := g.highWater ≤ q.commitment + k
  let room : Prop := q.commitment + 1 ≤ 32
  let offered (now : Bool) : Queue := { q with records := q.records ++ [.condition .backlog now] }
  ((b.active = true ↔ reached 0) → q' = q ∧ b' = b)
  ∧ (b.active = false → reached 0 →
    (b.latched = true ∨ g.reportMask.backlog = false →
      q' = q ∧ b' = { b with active := true, latched := true })
    ∧ (b.latched = false → g.reportMask.backlog = true → room → q' = offered true ∧ b' = ⟨true, true, true⟩)
    ∧ (b.latched = false → g.reportMask.backlog = true → ¬room →
      q' = { q with dropped := true } ∧ b' = { b with active := true, latched := true }))
  ∧ (b.active = true → ¬reached 0 →
    (b.endMark = false ∨ g.reportMask.backlog = false →
      q' = q ∧ b' = { b with active := false, endMark := false })
    ∧ (b.endMark = true → g.reportMask.backlog = true → ¬room →
      q' = { q with dropped := true } ∧ b' = { b with active := false, endMark := false })
    ∧ (b.endMark = true → g.reportMask.backlog = true → room → b.latched = true →
      q' = offered false ∧ (reached 1 → b' = ⟨true, true, false⟩)
        ∧ (¬reached 1 → b' = ⟨false, true, false⟩)))

/-- The records `rs` have joined the list, in one event or with no comparison between them that finds a change,
and BACKLOG has been compared and reported behind them (R131, R136). -/
def Admitted (s t : State) (rs : List Record) : Prop :=
  Joined s t rs
  ∧ BacklogReported t.globals
      { s.queue with records := s.queue.records ++ rs, reserved := t.queue.reserved } s.backlog
      t.queue t.backlog

/-! ## The handler -/

/-- The handler can take this frame (R166, R174, R175): RESET_N is released, the slot is empty, no restart
is due, and the frame is the oldest of the buffer, with `rest` behind it. -/
structure Awaits (s : State) (kind : Byte) (payload : List Byte) (rest : List Frame) : Prop where
  released : s.modes.resetPinLow = false
  slot : s.link.slot = none
  restart : s.modes.restart = .none
  buffer : s.link.buffer = ⟨kind, payload⟩ :: rest

/-- The part with its oldest frame taken, `rest` left in the buffer. -/
def State.taken (rest : List Frame) (s : State) : State :=
  { s with link := { s.link with buffer := rest } }

/-- The table of R168: a command's KIND, the LEN it requires, and whether it is taken in START. -/
def commandRow : Instr → Option (Byte × List Nat × Bool)
  | .ident => some (0x01, [2], true)
  | .status => some (0x02, [1], true)
  | .setProfile => some (0x03, [45], false)
  | .getProfile => some (0x04, [3], false)
  | .commit => some (0x05, [2], false)
  | .setGlobal => some (0x06, [7], false)
  | .getGlobal => some (0x07, [1], false)
  | .clearConditions => some (0x08, [2, 3, 4, 5, 6, 7, 8, 9, 10], false)
  | .events => some (0x09, [2], false)
  | .flush => some (0x0a, [1], false)
  | .releaseDamp => some (0x0b, [1], false)
  | .lock => some (0x0c, [1], false)
  | .doze => some (0x0d, [2], false)
  | .wake => some (0x0d, [2], false)
  | .readVoice => some (0x0e, [2], false)
  | .restart => some (0x0f, [1], false)
  | _ => none

/-! ## A note's beginning -/

/-- The slots a NOTE-ON needs (R128). -/
def NoteFlag.room (flag : NoteFlag) : Nat := if flag.mayNeedFix then 3 else 2

/-- A note begins on string `n` (R63, R70, R71, R78, R79, R111, R114, R115, R127, R128): the voice is
SOUNDING under the next serial, with no LOST and no candidate and its stall timer at 0; the reporter
starts from the note's pitch and offset; the NOTE-ON joins the list and its slots are reserved if there
is room, and DROPPED is set otherwise. -/
structure NoteBegun (n : Str) (base : Nat) (pitch : Option Nat) (offset : Int) (kind : StartKind)
    (flag : NoteFlag) (velocity : Nat) (s t : State) : Prop where
  voice : (t.channel n).voice =
    { Voice.reset with
      state := .sounding, damp := (s.channel n).voice.damp,
      openCause := (s.channel n).voice.openCause, serial := (s.channel n).voice.serial + 1,
      baseNote := some base, currentPitch := pitch, startKind := some kind,
      velocity := some velocity, stallTimer := some 0, stallFresh := s.atFrameEnd,
      reported := s.hasRoom flag.room, fix := s.hasRoom flag.room && flag.mayNeedFix }
  reporter : (t.channel n).reporter =
    { output := pitch, lastReported := some offset,
      schedule := if (s.channel n).active.glideMode = .onEstimate then none else some 0,
      boundaryDue := false, fresh := s.atFrameEnd }
  admitted : s.hasRoom flag.room = true →
    Admitted s t [.noteOn n ((s.channel n).voice.serial + 1) base velocity offset flag]
      ∧ t.queue.reserved = s.queue.reserved + (flag.room - 1)
  refused : s.hasRoom flag.room = false →
    t.queue = { s.queue with dropped := true } ∧ t.backlog = s.backlog

/-- The parts of a string that belong to no note: its profiles, its lane, its detector and its
conditions. -/
structure Channel.SameSource (c d : Channel) : Prop where
  active : d.active = c.active
  staged : d.staged = c.staged
  pendingFlag : d.pendingFlag = c.pendingFlag
  lane : d.lane = c.lane
  detector : d.detector = c.detector
  clip : d.clip = c.clip
  openMarks : d.openMarks = c.openMarks

/-! ## A record's fields -/

/-- A record's fields in the ranges of R125. -/
def Record.inRange : Record → Prop
  | .noteOn _ _ base velocity offset _ =>
    base ≤ 127 ∧ 1 ≤ velocity ∧ velocity ≤ 127 ∧ -32 ≤ offset ∧ offset ≤ 31
  | .noteOff _ _ _ => True
  | .glide _ _ offset => -1536 ≤ offset ∧ offset ≤ 1536
  | .pitchFix _ _ base offset => base ≤ 127 ∧ -32 ≤ offset ∧ offset ≤ 31
  | .condition _ _ => True
  | .notice _ => True

/-! ## All of them -/

/-- A sound state of the part. -/
structure Invariant (s : State) : Prop where
  settings : SettingsLaw s
  capture : CaptureLaw s
  timebase : TimebaseLaw s
  conditions : ConditionLaw s
  queue : QueueLaw s
  backlog : BacklogLaw s
  oneGlide : OneGlideLaw s
  noteOrder : NoteOrderLaw s
  channels : ChannelLaw s
  damp : DampLaw s
  start : StartLaw s
  doze : DozeLaw s
  pending : PendingLaw s
  link : LinkLaw s
  frames : FrameLaw s

end Sys2Proof.Machine
end

