-- ==== Sys2Proof/Certificates/Slice0/Obligations.lean ====
section
/-! DEFINITION. The statements for the provers, each formalising what the numbered rules of spec/ say a
step or the part does. -/

open Sys2Proof Sys2Proof.Machine

/-! ## Forms that several statements share -/

/-- The steps of a list taken one after another, each answering a next state. -/
def Runs : List Instr → State → State → Prop
  | [], s, t => t = s
  | i :: rest, s, t => ∃ u, exec i s = .next u ∧ Runs rest u t

/-- The offset estimate at a change of gain code (R16): multiplied by 2^(h − g), rounded with halves away
from zero where that divides, and limited. -/
def rescaledOffset (old new : Profile) (offset : Int) : Int :=
  max (-2048) (min 2047 (if old.gainCode ≤ new.gainCode
    then offset * 2 ^ (new.gainCode - old.gainCode)
    else roundHalfAway offset (2 ^ (old.gainCode - new.gainCode))))

/-- A voice that holds no note and no mute cause, in a state, under its serial. -/
def bareVoice (st : VoiceState) (v : Voice) : Voice :=
  { Voice.reset with state := st, serial := v.serial }

/-- An acquiring voice as it enters ACQUIRING: its acquisition timer at 0, and what it carries. -/
def acquiringVoice (velocity : Option Nat) (carried : Nat) (v : Voice) : Voice :=
  { bareVoice .acquiring v with acqTimer := some 0, velocity := velocity, carried := carried }

/-- A capture unit that takes a restart request (R35). -/
def restartedRing (p : Profile) (u : Capture) : Capture :=
  { u with ring := [], age := 0, guard := p.attackGuard }

/-- A peak as a velocity value (R54): round(127 × peak / reference), halves up, limited to 1 to 127; 127
under the clip mark. -/
def velocityValue (p : Profile) (clip : Bool) (peak : Nat) : Nat :=
  if clip then 127
  else max 1 (min 127 ((2 * (127 * peak) + p.velocityReference) / (2 * p.velocityReference)))

/-- A detector right after an ONSET or a RESTRIKE at this envelope (R43, R46, R47, R50, R53, R54): the gate
OPEN, the dip timer 0, the refractory timer loaded, the floor window holding this envelope, the tracker
started on it with this frame counted, and completed at once when the window is one frame. -/
def attackedDetector (p : Profile) (clip : Bool) (envelope : Nat) (rearmWait : Bool) : Detector :=
  let done := p.velocityWindow ≤ 1
  let value := if done then some (velocityValue p clip envelope) else none
  { gate := .opened, rearmWait := rearmWait, dipTimer := 0, refractory := p.surgeRefractory,
    floor := [envelope], phase := if done then .complete else .running, peak := envelope,
    remaining := p.velocityWindow - 1, clipMark := clip, velocity := value, judgementDue := false,
    completion := value }

/-- The surge test at a judgement of an OPEN gate (R46): CLIP inactive, the ratio not 0, the refractory timer
0 after its step, the floor window filled to the surge window, and the envelope at least the on threshold
and at least the ratio, in eighths, times one of the window's levels. -/
def Surges (c : Channel) : Prop :=
  c.clip.active = false ∧ c.active.surgeRatio ≠ 0 ∧ c.detector.refractory ≤ 1
  ∧ c.active.surgeWindow ≤ c.detector.floor.length
  ∧ (∃ level ∈ c.detector.floor.drop (c.detector.floor.length - c.active.surgeWindow),
      level * c.active.surgeRatio ≤ c.lane.envelope * 8)
  ∧ c.active.onThreshold ≤ c.lane.envelope

/-! ## The queue of steps -/

/-- The step at the front of the queue is taken on the part with the queue's rest, and an empty queue
idles (the block's form; log 6). -/
def Obligations.StepTakesTheFront : Prop :=
  (∀ (i : Instr) (rest : List Instr) (s : State), s.pending = i :: rest →
    step s = exec i { s with pending := rest })
  ∧ ∀ s : State, s.pending = [] → step s = .next s

/-- Every step completes in every state, and none touches the queue of steps. That a step which is not due
answers a next state too, the one it was taken in, is the model's choice (log 1), and so are the queue of
steps and how the sender fills it (log 6, log 14). -/
def Obligations.EveryStepCompletes : Prop :=
  ∀ (i : Instr) (s : State), ∃ t, exec i s = .next t ∧ t.pending = s.pending

/-! ## Resets (chapter 11, section 8.7) -/

/-- The Default column of R140: the fields that all strings share, and the enabled, open note and band code
fields by string. -/
def defaultColumn (n : Str) : Profile where
  enabled := decide (n.number ≤ 6)
  openNote := [64, 59, 55, 50, 45, 40, 35, 30].getD (n.number - 1) 0
  span := 24
  downAllowance := 2
  bendRange := 4
  gainCode := 3
  bandCode := [5, 4, 4, 3, 3, 2, 1, 1].getD (n.number - 1) 0
  hysteresis := 24
  persistence := 2
  decayStep := 6
  edgeSpanCode := 1
  attackGuard := 2
  toleranceCode := 4
  onThreshold := 160
  offThreshold := 96
  dipMin := 4
  dipMax := 40
  releaseHoldCode := 6
  surgeRatio := 20
  surgeWindow := 8
  surgeRefractory := 24
  velocityWindow := 4
  velocityReference := 1536
  startPolicy := .fast
  acquisitionLimit := 80
  legatoPolicy := .split
  stepThreshold := 40
  stepHold := 2
  lostLimit := 200
  associations := []
  bleedWindow := 12
  glideMode := .periodic 2
  deadband := 2
  slew := 0
  retriggerDrop := 4

/-- The part right after power-on is sound, and stands in START with every block at its reset value, the strings'
blocks, the link and the frame in progress included (R174; the table of values is each chapter's), and with
the default profiles of R140 and the default settings of R149 (R151). The inputs' levels are the model's
choice: both straps low and RESET_N released (log 14), DAMP deasserted (log 5), and so are the empty queue of
steps (log 14) and the inter-byte timer's 0 in HUNT (log 37). -/
def Obligations.ResetIsSound : Prop :=
  Invariant State.reset ∧ StartForm State.reset
  ∧ State.reset.modes = ⟨.start, ⟨true, false, false, false⟩, 0, 0, false, false, .none, false⟩
  ∧ State.reset.globals = ⟨.follow, 12, 400, ⟨true, true, true⟩, 28⟩
  ∧ State.reset.queue = ⟨[], 0, false, true⟩
  ∧ State.reset.mute = ⟨false, none, false, false, false, false⟩
  ∧ State.reset.link = ⟨.hunt, 0, [], 0, [], none, .idle, false, false, ⟨false, false⟩⟩
  ∧ State.reset.frameSamples = 0 ∧ State.reset.pending = []
  ∧ ∀ n, defaultProfile n = defaultColumn n
      ∧ (State.reset.channel n).active = defaultColumn n
      ∧ (State.reset.channel n).staged = defaultColumn n
      ∧ (State.reset.channel n).pendingFlag = false
      ∧ (State.reset.channel n).lane
        = ⟨0, 0, 0, 0, .disarmed, 0, 0, none, 0, 0, 0, 0, ⟨0, 0, false, false, false⟩⟩

/-- POWER_ON, SUPPLY_DROP, RESET_N and RESET_N_RELEASED (the table of R174, R151, R161): every block at its
reset value, the default profiles and settings, and the reset cause record. The straps are read as START
begins; that they stand while RESET_N is low is the model's choice (log 13), and so is that a release with
RESET_N released already changes nothing (log 1). -/
def Obligations.SupplyAndPinResets : Prop :=
  ∀ (straps : Straps) (s : State),
    (s.modes.resetPinLow = false →
      exec (.powerOn straps) s = .next { State.reset with
        link := .reset straps, mute := .reset s.mute.pin, pending := s.pending,
        modes := .reset ⟨true, false, false, false⟩ false })
    ∧ (s.modes.resetPinLow = false →
      exec (.supplyDrop straps) s = .next { State.reset with
        link := .reset straps, mute := .reset s.mute.pin, pending := s.pending,
        modes := .reset { s.modes.causes with supplyDrop := true } false })
    ∧ (s.modes.resetPinLow = false →
      exec .resetN s = .next { State.reset with
        link := .reset s.link.straps, mute := .reset s.mute.pin, pending := s.pending,
        modes := .reset { s.modes.causes with pin := true } true })
    ∧ (s.modes.resetPinLow = false → exec (.resetNReleased straps) s = .next s)
    ∧ (s.modes.resetPinLow = true →
      exec (.resetNReleased straps) s = .next { s with
        link := { s.link with straps := straps },
        modes := { s.modes with resetPinLow := false } })

/-- While RESET_N is held low nothing happens in the part (R174, log 13), and the supply's two events leave it
held, every block at its reset value: POWER_ON with exactly POWER in the record, SUPPLY_DROP with SUPPLY-DROP
added to the earlier causes (R174). That the record is written while the part is held, and that the straps
stand, is the model's choice (log 13). -/
def Obligations.HeldInReset : Prop :=
  ∀ (i : Instr) (s : State), s.modes.resetPinLow = true →
    ((∀ straps, i ≠ .powerOn straps ∧ i ≠ .supplyDrop straps ∧ i ≠ .resetNReleased straps) →
      exec i s = .next s)
    ∧ ∀ straps,
      exec (.powerOn straps) s = .next { State.reset with
        link := .reset s.link.straps, mute := .reset s.mute.pin, pending := s.pending,
        modes := .reset ⟨true, false, false, false⟩ true }
      ∧ exec (.supplyDrop straps) s = .next { State.reset with
        link := .reset s.link.straps, mute := .reset s.mute.pin, pending := s.pending,
        modes := .reset { s.modes.causes with supplyDrop := true } true }

/-- RESTART_RESET at the end of the RESTART's reply (R175, R151): the profiles, the pending flags and the
global settings are kept, the record gains RESTART, and everything else takes its reset value. That the
reply's end is marked by FRAME_SENT (`replySent`), or named by a RESTART_RESET while the reply is the frame in
transmission, is the model's choice (log 11). Where no restart is due, or its reply has not yet reached the
transmitter, nothing happens (the model's choice, log 1). -/
def Obligations.RestartResets : Prop :=
  ∀ (straps : Straps) (s : State), s.modes.resetPinLow = false →
    ((s.modes.restart = .replySent
        ∨ (s.modes.restart = .due ∧ ∃ bytes, s.link.tx = .sending bytes true)) →
      exec (.restartReset straps) s = .next { State.reset with
        channels := .of fun n => .reset (s.channel n).active (s.channel n).staged
          (s.channel n).pendingFlag,
        globals := s.globals, link := .reset straps, mute := .reset s.mute.pin,
        pending := s.pending,
        modes := .reset { s.modes.causes with restart := true } false })
    ∧ (s.modes.restart = .none
        ∨ (s.modes.restart = .due ∧ ∀ bytes, s.link.tx ≠ .sending bytes true) →
      exec (.restartReset straps) s = .next s)

/-- START_END (R173, R2, R15, R65, R131): when the settle timer has reached 512, each lane takes its measured
offset, a pending profile commits and rescales it, HELLO with the reset cause record is the one queued record,
and the mode is RUN with the idle timer at 0. Before that, and outside START, START_END changes nothing (the
model's choice of a step not due, log 1). -/
def Obligations.StartEnds : Prop :=
  ∀ s : State,
    (s.modes.resetPinLow = false → s.modes.mode = .start → s.modes.settle = 512 →
      StartForm s → s.globals.Valid →
      ∃ t, exec .startEnd s = .next t
        ∧ t.modes = { s.modes with mode := .run, idle := 0, idleDue := false }
        ∧ t.queue.records = [.notice (.hello s.modes.causes)] ∧ t.queue.dropped = false
        ∧ t.queue.reserved = 0 ∧ t.queue.gateOpen = s.queue.gateOpen ∧ t.timebase = 0 ∧ t.timebaseRunning = false
        ∧ t.globals = s.globals ∧ t.lock = s.lock ∧ t.link = s.link ∧ t.mute = s.mute
        ∧ t.frameSamples = s.frameSamples
        ∧ ∀ n,
          ((s.channel n).pendingFlag = false →
            t.channel n = { s.channel n with
              lane := { Lane.reset with offset := roundHalfAway (s.channel n).lane.startSum 4096 } })
          ∧ ((s.channel n).pendingFlag = true →
            let p := (s.channel n).staged
            let measured := roundHalfAway (s.channel n).lane.startSum 4096
            t.channel n = { Channel.reset p p false with
              lane := { Lane.reset with offset := rescaledOffset (s.channel n).active p measured } }))
    ∧ (s.modes.mode ≠ .start ∨ s.modes.settle ≠ 512 → exec .startEnd s = .next s)

/-! ## The handler (chapter 10) -/

/-- The frame is one that this handler step takes (R166, R168): of its row's KIND, and under KIND 0Dh not of the
other command's operand (log 12); for UNKNOWN-KIND, of no row's KIND. -/
def FrameOf (i : Instr) (f : Frame) : Prop :=
  (i = .unknownKind ∧ ¬(1 ≤ f.kind.toNat ∧ f.kind.toNat ≤ 15))
  ∨ ∃ lengths inStart, commandRow i = some (f.kind, lengths, inStart)
      ∧ (i = .doze → f.payload ≠ [1]) ∧ (i = .wake → f.payload ≠ [0])

/-- The common checks of R166, in their order, under the table of R168: UNKNOWN-KIND, BAD-LENGTH, WRONG-MODE. A
refused command changes nothing but the buffer and the slot. The two commands of KIND 0Dh are told apart by
their operand (log 12). And the handler takes no command while the reply slot is full, a restart is due or the
buffer is empty (R166, R167, R175), nor by a step that is not its oldest frame's: nothing changes then (the
model's choice of a step not due, log 1). -/
def Obligations.CommonRefusals : Prop :=
  (∀ (i : Instr) (kind : Byte) (payload : List Byte) (rest : List Frame) (s : State),
    Awaits s kind payload rest →
    (¬(1 ≤ kind.toNat ∧ kind.toNat ≤ 15) →
      exec .unknownKind s = .next (reply 0 .unknownKind [kind] (s.taken rest)))
    ∧ ∀ lengths inStart, commandRow i = some (kind, lengths, inStart) →
      (i = .doze → payload ≠ [1]) → (i = .wake → payload ≠ [0]) →
      (payload.length + 1 ∉ lengths →
        exec i s = .next (reply kind .badLength [] (s.taken rest)))
      ∧ (payload.length + 1 ∈ lengths → s.modes.mode = .start → inStart = false →
        exec i s = .next (reply kind .wrongMode [] (s.taken rest))))
  ∧ ∀ (i : Instr) (s : State), i = .unknownKind ∨ (commandRow i).isSome = true →
    s.link.slot ≠ none ∨ s.modes.restart ≠ .none ∨ s.link.buffer = []
        ∨ (∃ f rest, s.link.buffer = f :: rest ∧ ¬FrameOf i f) →
    exec i s = .next s

/-- A reply goes into the slot and nowhere else: the command's KIND + 40h, the status summary, the outcome
and the data (R166, R170); the summary's bits are those of the table of R170. -/
def Obligations.ReplyCarriesTheSummary : Prop :=
  ∀ (kind : Byte) (outcome : ReplyOutcome) (data : List Byte) (s : State),
    reply kind outcome data s =
      { s with link := { s.link with
          slot := some ⟨kind + 0x40, s.summary0, s.summary1, outcome, data⟩ } }
    ∧ s.summary0.toNat % 4
      = (match s.modes.mode with | .start => 0 | .run => 1 | .doze => 2)
    ∧ s.summary0.getLsbD 2 = s.lock ∧ s.summary0.getLsbD 3 = s.queue.gateOpen
    ∧ s.summary0.getLsbD 4 = s.mute.inForce ∧ s.summary0.getLsbD 5 = s.queue.dropped
    ∧ s.summary0.getLsbD 6 = s.link.overrun ∧ s.summary0.getLsbD 7 = s.link.frameErr
    ∧ (s.summary1 = 1 ↔ s.backlog.latched = true
        ∨ ∃ n, (s.channel n).clip.latched = true ∨ (s.channel n).openMarks.latched = true)
    ∧ (s.summary1 = 0 ∨ s.summary1 = 1)

/-- IDENT and STATUS (R168): the reply carries the data and the summary as they stand; IDENT with option 1
then clears the reset cause record, STATUS clears DROPPED, OVERRUN and FRAME-ERR; nothing else changes.
An option that is neither is refused with BAD-FIELD 0. -/
def Obligations.IdentAndStatusReport : Prop :=
  ∀ (option : Byte) (rest : List Frame) (s : State),
    (Awaits s 0x01 [option] rest →
      (option = 0 →
        exec .ident s = .next (reply 0x01 .taken
          [0x38, 0x0a, 0x41, 8, 32, s.modes.causes.byte] (s.taken rest)))
      ∧ (option = 1 →
        exec .ident s = .next
          { reply 0x01 .taken [0x38, 0x0a, 0x41, 8, 32, s.modes.causes.byte] (s.taken rest) with
            modes := { s.modes with causes := ⟨false, false, false, false⟩ } })
      ∧ (option ≠ 0 → option ≠ 1 →
        exec .ident s = .next (reply 0x01 (.badField 0) [] (s.taken rest))))
    ∧ (Awaits s 0x02 [] rest →
      exec .status s = .next
        { s with
          queue := { s.queue with dropped := false },
          link := { s.link with
            buffer := rest, overrun := false, frameErr := false,
            slot := some ⟨0x42, s.summary0, s.summary1, .taken, statusData s⟩ } })

/-- GET-PROFILE, GET-GLOBAL and READ-VOICE (R96, R148): the reply reads the state and nothing else
changes; the string is checked first. -/
def Obligations.ReadingCommandsReply : Prop :=
  ∀ (string selector : Byte) (rest : List Frame) (s : State), s.modes.mode ≠ .start →
    (Awaits s 0x04 [string, selector] rest →
      (∀ n, Str.ofNumber string.toNat = some n →
        (selector = 0 → exec .getProfile s = .next (reply 0x04 .taken
          (flagByte (s.channel n).pendingFlag :: (s.channel n).active.bytes) (s.taken rest)))
        ∧ (selector = 1 → exec .getProfile s = .next (reply 0x04 .taken
          (flagByte (s.channel n).pendingFlag :: (s.channel n).staged.bytes) (s.taken rest)))
        ∧ (selector ≠ 0 → selector ≠ 1 →
          exec .getProfile s = .next (reply 0x04 (.badField 0) [] (s.taken rest))))
      ∧ (Str.ofNumber string.toNat = none →
        exec .getProfile s = .next (reply 0x04 .badString [] (s.taken rest))))
    ∧ (Awaits s 0x07 [] rest →
      exec .getGlobal s = .next (reply 0x07 .taken s.globals.bytes (s.taken rest)))
    ∧ (Awaits s 0x0e [string] rest →
      (∀ n, Str.ofNumber string.toNat = some n →
        exec .readVoice s = .next (reply 0x0e .taken (snapshot n (s.channel n)) (s.taken rest)))
      ∧ (Str.ofNumber string.toNat = none →
        exec .readVoice s = .next (reply 0x0e .badString [] (s.taken rest))))

/-- The layouts of STATUS and of the READ-VOICE snapshot (R172): their lengths and each byte's place, the
numbers their codes stand for, FFh and FFFFh for what is absent, a pitch of two bytes with the low byte
first, and 0 for the pitch after a kind or a count of 0. -/
def Obligations.StatusAndSnapshotLayout : Prop :=
  [VoiceState.quiet, .suspect, .acquiring, .sounding, .silent, .muted].map VoiceState.code
      = [0, 1, 2, 3, 4, 5]
  ∧ [StartKind.normal, .provisional, .unpitched].map StartKind.code = [0, 1, 2]
  ∧ [Gate.closed, .opened, .dip].map Gate.code = [0, 1, 2]
  ∧ optional1 none = 0xff ∧ optional2 none = [0xff, 0xff]
  ∧ estimateBytes none = [0, 0, 0] ∧ candidateBytes none = [0, 0, 0]
  ∧ (∀ x count pitch : Nat, (byte x).toNat = x % 256
    ∧ bytes2 x = [byte (x % 256), byte (x / 256)]
    ∧ optional1 (some x) = byte x ∧ optional2 (some x) = bytes2 x
    ∧ estimateBytes (some ⟨.full, pitch⟩) = 1 :: bytes2 pitch
    ∧ estimateBytes (some ⟨.provisional, pitch⟩) = 2 :: bytes2 pitch
    ∧ candidateBytes (some ⟨pitch, count⟩) = byte count :: bytes2 pitch)
  ∧ (∀ s : State, (statusData s).length = 19
    ∧ (∀ n : Str, ∃ b0 b1 : Byte,
      (statusData s)[2 * (n.number - 1)]? = some b0 ∧ (statusData s)[2 * (n.number - 1) + 1]? = some b1
      ∧ b0.toNat = (s.channel n).voice.state.code + 8 * (s.channel n).voice.damp.toNat
        + 16 * (s.channel n).voice.openCause.toNat + 32 * (s.channel n).pendingFlag.toNat
      ∧ b1.toNat = (s.channel n).clip.active.toNat + 2 * (s.channel n).clip.latched.toNat
        + 4 * (s.channel n).openMarks.active.toNat + 8 * (s.channel n).openMarks.latched.toNat)
    ∧ (statusData s)[16]? = some (byte (s.backlog.active.toNat + 2 * s.backlog.latched.toNat))
    ∧ (statusData s)[17]? = some (byte s.queue.records.length)
    ∧ (statusData s)[18]? = some (byte s.queue.reserved))
  ∧ ∀ (n : Str) (c : Channel),
    (snapshot n c).length = 26
    ∧ (snapshot n c).take 5 =
      [byte n.number, byte c.voice.state.code,
        byte (c.voice.damp.toNat + 2 * c.voice.openCause.toNat + 4 * c.voice.lost.toNat
          + 8 * c.voice.acqExpired.toNat + 16 * c.voice.reported.toNat + 32 * c.voice.fix.toNat
          + 64 * c.detector.rearmWait.toNat),
        c.voice.serial, optional1 c.voice.baseNote]
    ∧ ((snapshot n c).drop 5).take 4 = optional2 c.voice.currentPitch
      ++ [optional1 (c.voice.startKind.map StartKind.code), byte (c.voice.velocity.getD 0)]
    ∧ ((snapshot n c).drop 9).take 6 = estimateBytes c.voice.held ++ candidateBytes c.voice.candidate
    ∧ ((snapshot n c).drop 15).take 5 = bytes2 (c.voice.lostTimer.getD 0)
      ++ optional2 c.voice.acqTimer ++ [optional1 c.bleed.timer]
    ∧ (snapshot n c).drop 20 = [byte c.detector.gate.code, byte c.detector.remaining,
      byte c.capture.ring.length] ++ estimateBytes c.capture.lastEstimate

/-! ## The profile store (chapter 8) -/

/-- SET-PROFILE (R143): LOCKED, BAD-STRING and BAD-FIELD in this order, each changing nothing; a valid
profile is staged with the pending flag set, and committed at once when the voice is QUIET. -/
def Obligations.SetProfileStagesOrCommits : Prop :=
  ∀ (string : Byte) (record : List Byte) (rest : List Frame) (s : State),
    s.modes.mode ≠ .start → record.length = 43 → Awaits s 0x03 (string :: record) rest →
    (s.lock = true → exec .setProfile s = .next (reply 0x03 .locked [] (s.taken rest)))
    ∧ (s.lock = false → Str.ofNumber string.toNat = none →
      exec .setProfile s = .next (reply 0x03 .badString [] (s.taken rest)))
    ∧ ∀ n, s.lock = false → Str.ofNumber string.toNat = some n →
      (∀ index, firstFailing (profileChecks n record) = some index →
        exec .setProfile s = .next (reply 0x03 (.badField index) [] (s.taken rest)))
      ∧ (firstFailing (profileChecks n record) = none →
        ((s.channel n).voice.state ≠ .quiet →
          exec .setProfile s = .next (reply 0x03 .staged []
            ((s.taken rest).mod n fun c =>
              { c with staged := profileOf record, pendingFlag := true })))
        ∧ ((s.channel n).voice.state = .quiet →
          exec .setProfile s = .next (reply 0x03 .committed []
            ((s.taken rest).mod n fun c =>
              { c with staged := profileOf record, pendingFlag := true : Channel }.commit
                s.mute.inForce))))

/-- What a commit does to every block of its string (the table of R145): the lane (R16), the capture unit
(R21, R37), the detector (R56, R58), and, where the profile disables the string, the voice, the bleed window,
the reporter, the line and the markers (R61, R89, R103, R122, R159). A commit that enables the string starts
its crossing path cleared and its counts at 0, and under the damp mute adds DAMP; that the frame in progress
stands, its samples of before included, is the model's choice (log 30). A crossing and an estimate of this
instant not yet taken are kept, the order "commit first" of R37; that a commit which disables the string drops
them, and with them a judgement still due, is deduced (log 20), and so is that a
velocity completed and not yet handed over goes with the tracker (log 19): a COMMIT and a doze entry have it
taken first (R55 to R57). -/
def Obligations.CommitTakesTheProfile : Prop :=
  ∀ (damped : Bool) (c : Channel),
    (c.commit damped).active = c.staged ∧ (c.commit damped).staged = c.staged
    ∧ (c.commit damped).pendingFlag = false
    ∧ (c.commit damped).lane.arm = .disarmed ∧ (c.commit damped).lane.below = 0
    ∧ (c.commit damped).lane.above = 0 ∧ (c.commit damped).lane.transit = none
    ∧ (c.commit damped).lane.envelope = c.lane.envelope
    ∧ (c.commit damped).lane.frame = c.lane.frame
    ∧ (c.commit damped).lane.startSum = c.lane.startSum
    ∧ (c.commit damped).lane.offset = rescaledOffset c.active c.staged c.lane.offset
    ∧ (c.commit damped).capture.ring = [] ∧ (c.commit damped).capture.guard = 0
    ∧ (c.commit damped).capture.age = 0 ∧ (c.commit damped).capture.lastEstimate = none
    ∧ (c.commit damped).capture.pmin = c.staged.pmin
    ∧ (c.commit damped).capture.pmax = c.staged.pmax
    ∧ (c.commit damped).detector.gate = c.detector.gate
    ∧ (c.commit damped).detector.dipTimer = 0 ∧ (c.commit damped).detector.refractory = 0
    ∧ (c.commit damped).detector.floor = [] ∧ (c.commit damped).detector.phase = .idle
    ∧ (c.commit damped).detector.velocity = none ∧ (c.commit damped).detector.completion = none
    ∧ (c.staged.enabled = true →
      (c.commit damped).detector.rearmWait = c.detector.rearmWait
      ∧ (c.commit damped).detector.judgementDue = c.detector.judgementDue
      ∧ (c.commit damped).capture.handed = c.capture.handed
      ∧ (c.commit damped).capture.delivered = c.capture.delivered
      ∧ (c.commit damped).clip = c.clip ∧ (c.commit damped).openMarks = c.openMarks
      ∧ (c.commit damped).gateLine = c.gateLine
      ∧ (c.active.enabled = true → (c.commit damped).lane.filter1 = c.lane.filter1
          ∧ (c.commit damped).lane.filter2 = c.lane.filter2
          ∧ (c.commit damped).lane.clipQuiet = c.lane.clipQuiet
          ∧ (c.commit damped).lane.openHold = c.lane.openHold
          ∧ (c.commit damped).lane.openRelease = c.lane.openRelease)
      ∧ (c.active.enabled = false → (c.commit damped).lane.filter1 = 0
          ∧ (c.commit damped).lane.filter2 = 0 ∧ (c.commit damped).lane.clipQuiet = 0
          ∧ (c.commit damped).lane.openHold = 0 ∧ (c.commit damped).lane.openRelease = 0)
      ∧ (c.active.enabled = false → damped = true →
          (c.commit damped).voice.state = .muted ∧ (c.commit damped).voice.damp = true
          ∧ (c.commit damped).bleed = ⟨none, false⟩
          ∧ (c.commit damped).reporter = ⟨none, none, none, false, false⟩)
      ∧ (c.active.enabled = true ∨ damped = false →
          (c.commit damped).voice = c.voice ∧ (c.commit damped).bleed = c.bleed
          ∧ (c.commit damped).reporter = c.reporter))
    ∧ (c.staged.enabled = false →
      (c.commit damped).voice.state = .quiet ∧ (c.commit damped).voice.hasCause = false
      ∧ (c.commit damped).bleed = ⟨none, false⟩
      ∧ (c.commit damped).reporter = ⟨none, none, none, false, false⟩
      ∧ (c.commit damped).capture.handed = none ∧ (c.commit damped).capture.delivered = none
      ∧ (c.commit damped).detector.judgementDue = false
      ∧ (c.commit damped).detector.rearmWait = false
      ∧ (c.commit damped).lane.filter1 = 0 ∧ (c.commit damped).lane.filter2 = 0
      ∧ (c.commit damped).lane.clipQuiet = 0 ∧ (c.commit damped).lane.openHold = 0
      ∧ (c.commit damped).lane.openRelease = 0
      ∧ (c.commit damped).gateLine.high = false ∧ (c.commit damped).gateLine.drop = none
      ∧ (c.commit damped).clip = ⟨false, false, false⟩
      ∧ (c.commit damped).openMarks = ⟨false, false, false⟩)

/-- COMMIT (R146, R93, R56): NONE with nothing pending, and BAD-STRING, change nothing; with a pending
profile the profile is active and the gate is CLOSED with the re-arm wait exactly where the string is enabled;
the voice is QUIET afterwards and holds nothing, but for a MUTED voice whose string stays enabled, which keeps
its causes. A profile that disables the string takes every cause from a MUTED voice and leaves the line LOW
with no drop and the markers clear (R87, R89, R122, R159). A note that ended was reported as
NOTE-OFF(RECONFIGURE) if its NOTE-ON was, and its line falls with a drop at 0 (R119). Where the judgement of
this frame end came first, the voice takes its arrivals before the commit (R56, R93): all of this is said of
`u`, the state a VELOCITY_COMPLETION leaves, which is the state before it where none is to be handed over. -/
def Obligations.CommitForcesTheProfile : Prop :=
  ∀ (string : Byte) (rest : List Frame) (s : State),
    s.modes.mode ≠ .start → Awaits s 0x05 [string] rest →
    (Str.ofNumber string.toNat = none →
      exec .commit s = .next (reply 0x05 .badString [] (s.taken rest)))
    ∧ ∀ n, Str.ofNumber string.toNat = some n →
      ((s.channel n).pendingFlag = false →
        exec .commit s = .next (reply 0x05 .nothing [] (s.taken rest)))
      ∧ ((s.channel n).pendingFlag = true → Invariant s →
        ∃ u t, exec (.velocityCompletion n) s = .next u ∧ exec .commit s = .next t
          ∧ ((s.channel n).detector.completion = none → u = s)
          ∧ (∃ reply, t.link.slot = some reply ∧ reply.kind = 0x45 ∧ reply.outcome = .committed)
          ∧ t.link.buffer = rest ∧ t.globals = s.globals ∧ t.lock = s.lock ∧ t.mute = s.mute
          ∧ t.modes = s.modes ∧ t.timebase = s.timebase ∧ t.frameSamples = s.frameSamples
          ∧ (∀ m, m ≠ n → t.channel m = s.channel m)
          ∧ (t.channel n).active = (s.channel n).staged
          ∧ (t.channel n).pendingFlag = false
          ∧ (t.channel n).detector.gate = .closed
          ∧ (t.channel n).detector.rearmWait = (s.channel n).staged.enabled
          ∧ (t.channel n).voice.serial = (u.channel n).voice.serial
          ∧ ((u.channel n).voice.state ≠ .muted ∨ (s.channel n).staged.enabled = false →
              (t.channel n).voice = bareVoice .quiet (u.channel n).voice)
          ∧ ((u.channel n).voice.state = .muted → (s.channel n).staged.enabled = true →
              (t.channel n).voice = (u.channel n).voice
                ∧ (t.channel n).gateLine = (u.channel n).gateLine)
          ∧ ((s.channel n).staged.enabled = false →
              (t.channel n).gateLine.high = false ∧ (t.channel n).gateLine.drop = none
                ∧ (t.channel n).clip = ⟨false, false, false⟩
                ∧ (t.channel n).openMarks = ⟨false, false, false⟩)
          ∧ ((u.channel n).voice.reported = true →
              Admitted u t [.noteOff n (u.channel n).voice.serial .reconfigure]
                ∧ t.queue.reserved = u.queue.reserved - (u.channel n).voice.slots)
          ∧ ((u.channel n).voice.reported = false → t.queue = u.queue ∧ t.backlog = u.backlog)
          ∧ ((u.channel n).voice.state = .sounding → (s.channel n).staged.enabled = true →
              (t.channel n).gateLine.high = false ∧ (t.channel n).gateLine.drop = some 0))

/-- What the end of the damp mute does to the strings (R86, R89, R144): DAMP leaves every enabled voice; one
that holds no other cause is QUIET if its gate is CLOSED, where a pending profile commits, and SILENT
otherwise. -/
def DampRemoved (s t : State) : Prop :=
  ∀ n,
    let c := s.channel n
    let left (st : VoiceState) : Channel := { c with
      voice := bareVoice st c.voice, bleed := ⟨none, false⟩,
      reporter := ⟨none, none, none, false, false⟩ }
    (c.active.enabled = false → t.channel n = c)
    ∧ (c.active.enabled = true →
      (c.voice.openCause = true → t.channel n = { c with voice := { c.voice with damp := false } })
      ∧ (c.voice.openCause = false → c.detector.gate ≠ .closed → t.channel n = left .silent)
      ∧ (c.voice.openCause = false → c.detector.gate = .closed → c.pendingFlag = false →
        t.channel n = left .quiet)
      ∧ (c.voice.openCause = false → c.detector.gate = .closed → c.pendingFlag = true →
        t.channel n = (left .quiet).commit false
          ∧ (t.channel n).active = c.staged ∧ (t.channel n).pendingFlag = false
          ∧ (t.channel n).voice = bareVoice .quiet c.voice))

/-- What the coming of the damp mute does (R85, R89): the notice is offered first, and then every enabled voice
is MUTED with DAMP among its causes, its reported note ended by NOTE-OFF(DAMPED) in string order, its slots
given back, and its line LOW with a drop at 0; the rest of the strings and the event gate stand. -/
def DampCame (s t : State) : Prop :=
  (∀ n, ((s.channel n).active.enabled = false → t.channel n = s.channel n)
    ∧ ((s.channel n).active.enabled = true →
      (s.channel n).SameSource (t.channel n) ∧ (t.channel n).capture = (s.channel n).capture
      ∧ (t.channel n).voice = { Voice.reset with
        state := .muted, damp := true, openCause := (s.channel n).voice.openCause,
        serial := (s.channel n).voice.serial }
      ∧ ((s.channel n).voice.state = .sounding →
        (t.channel n).gateLine.high = false ∧ (t.channel n).gateLine.drop = some 0)
      ∧ ((s.channel n).voice.state ≠ .sounding →
        (t.channel n).gateLine = (s.channel n).gateLine)))
  ∧ t.queue.records.filter (fun r => !r.isBacklog)
    = s.queue.records.filter (fun r => !r.isBacklog)
      ++ (if s.hasRoom 1 = true then [.notice .dampOn] else [])
      ++ (Str.all.filter fun n => (s.channel n).voice.reported).map
          (fun n => .noteOff n (s.channel n).voice.serial .damped)
  ∧ t.queue.reserved = s.queue.reserved - s.slotsHeld ∧ t.queue.gateOpen = s.queue.gateOpen
  ∧ BacklogLaw t
  ∧ (s.hasRoom 1 = false → t.queue.dropped = true)

/-- An offered CONDITION or NOTICE joins the list, R as it was, with BACKLOG compared behind it, or is refused
with DROPPED set and nothing else changed (R127, R131, R136). -/
def Offered (r : Record) (s t : State) : Prop :=
  (s.hasRoom 1 = true → Admitted s t [r] ∧ t.queue.reserved = s.queue.reserved)
  ∧ (s.hasRoom 1 = false → t.queue = { s.queue with dropped := true } ∧ t.backlog = s.backlog)

/-- SET-GLOBAL (R149): LOCKED and BAD-FIELD change nothing; a valid record replaces the settings at once, the
damp mode takes effect under R91, and BACKLOG is compared with the new setting (R136). A change of damp mode
sets the latch and the mute as the table of R91 says: a mute that comes into force offers NOTICE(DAMP-ON) and
ends the reported notes with NOTE-OFF(DAMPED) in string order, one that ends removes DAMP from every enabled
voice, commits what enters QUIET, and offers NOTICE(DAMP-OFF) (R85, R86, R89, R144), answered before the new
mask and high-water setting are applied and the commitment is compared again. Where the mute stands as it was
nothing else changes but the BACKLOG report. -/
def Obligations.SetGlobalReplacesTheSettings : Prop :=
  ∀ (record : List Byte) (rest : List Frame) (s : State),
    s.modes.mode ≠ .start → record.length = 6 → Awaits s 0x06 record rest →
    (s.lock = true → exec .setGlobal s = .next (reply 0x06 .locked [] (s.taken rest)))
    ∧ (s.lock = false → ∀ index, firstFailing (globalChecks record) = some index →
      exec .setGlobal s = .next (reply 0x06 (.badField index) [] (s.taken rest)))
    ∧ (s.lock = false → firstFailing (globalChecks record) = none →
      ∃ t, exec .setGlobal s = .next t
        ∧ t.globals = globalsOf record ∧ (globalsOf record).Valid
        ∧ t.backlog.active = t.backlogNow
        ∧ (∃ reply, t.link.slot = some reply ∧ reply.kind = 0x46 ∧ reply.outcome = .taken)
        ∧ t.lock = s.lock ∧ t.modes = s.modes ∧ t.timebase = s.timebase
        ∧ t.frameSamples = s.frameSamples ∧ t.mute.debounced = s.mute.debounced
        ∧ t.mute.previous = s.mute.previous ∧ t.mute.pin = s.mute.pin
        ∧ ((globalsOf record).dampMode = s.globals.dampMode →
            t.mute = s.mute ∧ t.channels = s.channels ∧ Admitted s t []
              ∧ t.queue.reserved = s.queue.reserved)
        ∧ t.mute.changeDue = s.mute.changeDue
        ∧ ((globalsOf record).dampMode ≠ s.globals.dampMode → Invariant s →
            (t.mute.latch, t.mute.inForce) =
              (match (globalsOf record).dampMode with
              | .off => (false, false)
              | .follow => (false, s.mute.debounced)
              | .latch =>
                if s.globals.dampMode = .follow ∧ s.mute.debounced = true
                then (true, true) else (false, false))
            ∧ (s.mute.inForce = false → t.mute.inForce = true → DampCame s t)
            ∧ (s.mute.inForce = true → t.mute.inForce = false →
                DampRemoved s t ∧ ∃ u : State, u.globals = s.globals
                  ∧ Offered (.notice .dampOff) s u
                  ∧ BacklogReported t.globals u.queue u.backlog t.queue t.backlog)
            ∧ (t.mute.inForce = s.mute.inForce → t.channels = s.channels ∧ Admitted s t []
                ∧ t.queue.reserved = s.queue.reserved)))

/-! ## Conditions, events, notes, the damp mute (chapters 4, 7, 9) -/

/-- CLEAR-CONDITIONS (R156): the kinds are checked before the strings; each named latched marker is cleared
where its active marker is clear, nothing else changes, and the reply lists every latched marker that is
left (R168). -/
def Obligations.ClearConditionsClears : Prop :=
  ∀ (kinds : Byte) (names : List Byte) (rest : List Frame) (s : State),
    s.modes.mode ≠ .start → names.length ≤ 8 → Awaits s 0x08 (kinds :: names) rest →
    (7 < kinds.toNat → exec .clearConditions s = .next (reply 0x08 (.badField 0) [] (s.taken rest)))
    ∧ (kinds.toNat ≤ 7 → (∃ b ∈ names, Str.ofNumber b.toNat = none) →
      exec .clearConditions s = .next (reply 0x08 .badString [] (s.taken rest)))
    ∧ (kinds.toNat ≤ 7 → (∀ b ∈ names, (Str.ofNumber b.toNat).isSome = true) →
      let cleared (named : Bool) (m : Markers) : Markers :=
        { m with latched := m.latched && (m.active || !named) }
      let named (n : Str) : Bool := names.any fun b => b.toNat == n.number
      let u : State := { s.taken rest with
        channels := .of fun n => { s.channel n with
          clip := cleared (kinds.getLsbD 0 && named n) (s.channel n).clip,
          openMarks := cleared (kinds.getLsbD 1 && named n) (s.channel n).openMarks },
        backlog := cleared (kinds.getLsbD 2) s.backlog }
      ∃ clips opens backlog : Byte,
        exec .clearConditions s = .next (reply 0x08 .taken [clips, opens, backlog] u)
        ∧ (∀ n, clips.getLsbD (n.number - 1) = (u.channel n).clip.latched
            ∧ opens.getLsbD (n.number - 1) = (u.channel n).openMarks.latched)
        ∧ backlog = if u.backlog.latched then 1 else 0)

/-- EVENTS, LOCK and RESTART (R134, R150, R175): the event gate takes the value named, the LOCK flag is
set, and a restart is due once its reply is placed; nothing else changes. LOCK refuses RESTART and does not
refuse EVENTS. -/
def Obligations.EventsLockAndRestart : Prop :=
  ∀ (value : Byte) (rest : List Frame) (s : State), s.modes.mode ≠ .start →
    (Awaits s 0x09 [value] rest →
      (value = 0 → exec .events s = .next (reply 0x09 .taken []
        { s.taken rest with queue := { s.queue with gateOpen := false } }))
      ∧ (value = 1 → exec .events s = .next (reply 0x09 .taken []
        { s.taken rest with queue := { s.queue with gateOpen := true } }))
      ∧ (value ≠ 0 → value ≠ 1 →
        exec .events s = .next (reply 0x09 (.badField 0) [] (s.taken rest))))
    ∧ (Awaits s 0x0c [] rest →
      exec .lock s = .next (reply 0x0c .taken [] { s.taken rest with lock := true }))
    ∧ (Awaits s 0x0f [] rest →
      (s.lock = true → exec .restart s = .next (reply 0x0f .locked [] (s.taken rest)))
      ∧ (s.lock = false → exec .restart s = .next
        { reply 0x0f .taken [] (s.taken rest) with modes := { s.modes with restart := .due } }))

/-- FLUSH (R92, R119): every SOUNDING, ACQUIRING and SUSPECT voice becomes SILENT, holding nothing; the
reported notes' NOTE-OFF(FLUSH) join the list in ascending string order and their slots are given back; the
lines of the ended notes fall with a drop at 0; QUIET, SILENT and MUTED voices, the rings, the gates and the
serials stand. -/
def Obligations.FlushEndsEveryNote : Prop :=
  ∀ (rest : List Frame) (s : State),
    s.modes.mode ≠ .start → Awaits s 0x0a [] rest → ChannelLaw s →
    ∃ t, exec .flush s = .next t
      ∧ (∃ reply, t.link.slot = some reply ∧ reply.kind = 0x4a ∧ reply.outcome = .taken)
      ∧ t.globals = s.globals ∧ t.lock = s.lock ∧ t.mute = s.mute ∧ t.modes = s.modes
      ∧ t.timebase = s.timebase ∧ t.frameSamples = s.frameSamples
      ∧ t.queue.records.filter (fun r => !r.isBacklog)
        = s.queue.records.filter (fun r => !r.isBacklog)
          ++ (Str.all.filter fun n => (s.channel n).voice.reported).map
              (fun n => .noteOff n (s.channel n).voice.serial .flush)
      ∧ t.queue.reserved = s.queue.reserved - s.slotsHeld ∧ t.queue.gateOpen = s.queue.gateOpen
      ∧ (BacklogLaw s → BacklogLaw t)
      ∧ ∀ n, (s.channel n).SameSource (t.channel n)
        ∧ (t.channel n).capture = (s.channel n).capture
        ∧ ((s.channel n).voice.state = .sounding ∨ (s.channel n).voice.state = .acquiring
              ∨ (s.channel n).voice.state = .suspect →
            (t.channel n).voice = { Voice.reset with
                state := .silent, serial := (s.channel n).voice.serial }
            ∧ (t.channel n).bleed.timer = none)
        ∧ ((s.channel n).voice.state = .quiet ∨ (s.channel n).voice.state = .silent
              ∨ (s.channel n).voice.state = .muted → t.channel n = s.channel n)
        ∧ ((s.channel n).voice.state = .sounding →
            (t.channel n).gateLine.high = false ∧ (t.channel n).gateLine.drop = some 0)

/-- RELEASE-DAMP (R90): under LATCH with DAMP deasserted a latched mute ends, DAMP leaves the voices (R86, R89,
R144), and DAMP-OFF is offered; TAKEN without a latch, and WRONG-STATE otherwise. -/
def Obligations.ReleaseDampEndsALatchedMute : Prop :=
  ∀ (rest : List Frame) (s : State), s.modes.mode ≠ .start → Awaits s 0x0b [] rest →
    (s.globals.dampMode = .latch → s.mute.debounced = false → s.mute.latch = true → Invariant s →
      ∃ t, exec .releaseDamp s = .next t
        ∧ (∃ reply, t.link.slot = some reply ∧ reply.kind = 0x4b ∧ reply.outcome = .taken)
        ∧ t.mute = { s.mute with latch := false, inForce := false }
        ∧ DampRemoved s t ∧ Offered (.notice .dampOff) s t
        ∧ t.globals = s.globals ∧ t.lock = s.lock ∧ t.modes = s.modes ∧ t.timebase = s.timebase)
    ∧ (s.globals.dampMode = .latch → s.mute.debounced = false → s.mute.latch = false →
      exec .releaseDamp s = .next (reply 0x0b .taken [] (s.taken rest)))
    ∧ (s.globals.dampMode = .latch → s.mute.debounced = true →
      exec .releaseDamp s = .next (reply 0x0b .wrongState [] (s.taken rest)))
    ∧ (s.globals.dampMode ≠ .latch →
      exec .releaseDamp s = .next (reply 0x0b .wrongState [] (s.taken rest)))

/-- DAMP_ASSERTION and DAMP_DEASSERTION (R85, R86, R88, R89): a due change of the debounced level is taken,
and the latch and the mute follow the table of R89, in any mode: a change due when a doze entry of the same
instant was taken first is made in DOZE (deduced, log 22). A mute that comes into force is noticed first, and
then every enabled voice is MUTED with its reported note ended by NOTE-OFF(DAMPED), in string order; an
assertion that finds the mute in force, under LATCH, changes neither the strings nor the queue; a mute that
ends is as R86 and R144 say. With no such change due nothing happens (the model's choice, log 1). -/
def Obligations.DampLevelChanges : Prop :=
  ∀ s : State, s.modes.resetPinLow = false → Invariant s →
    (s.mute.changeDue = true → s.mute.debounced = false →
      ∃ t, exec .dampAssertion s = .next t
        ∧ t.mute = { s.mute with
            debounced := true, changeDue := false,
            latch := s.mute.latch || s.globals.dampMode == .latch,
            inForce := s.globals.dampMode == .follow || s.globals.dampMode == .latch }
        ∧ t.globals = s.globals ∧ t.lock = s.lock ∧ t.link = s.link ∧ t.modes = s.modes
        ∧ t.timebase = s.timebase ∧ t.frameSamples = s.frameSamples
        ∧ (s.globals.dampMode = .off → t.channels = s.channels ∧ t.queue = s.queue
            ∧ t.backlog = s.backlog)
        ∧ (s.globals.dampMode ≠ .off → s.mute.inForce = false → DampCame s t)
        ∧ (s.mute.inForce = true → t.channels = s.channels ∧ t.queue = s.queue
            ∧ t.backlog = s.backlog))
    ∧ (s.mute.changeDue = true → s.mute.debounced = true →
      ∃ t, exec .dampDeassertion s = .next t
        ∧ t.mute = { s.mute with
            debounced := false, changeDue := false,
            inForce := s.mute.inForce && s.globals.dampMode == .latch }
        ∧ t.globals = s.globals ∧ t.lock = s.lock ∧ t.link = s.link ∧ t.modes = s.modes
        ∧ t.timebase = s.timebase ∧ t.frameSamples = s.frameSamples
        ∧ (s.globals.dampMode = .follow → DampRemoved s t ∧ Offered (.notice .dampOff) s t)
        ∧ (s.globals.dampMode ≠ .follow → t.channels = s.channels ∧ t.queue = s.queue
            ∧ t.backlog = s.backlog))
    ∧ (s.mute.changeDue = false ∨ s.mute.debounced = true → exec .dampAssertion s = .next s)
    ∧ (s.mute.changeDue = false ∨ s.mute.debounced = false → exec .dampDeassertion s = .next s)

/-! ## Modes (chapter 11) -/

/-- What doze entry does (R176, R94, R57, R38, R15, R123): the mode is DOZE, every gate is CLOSED, every voice
QUIET or still MUTED, every ring and crossing path cleared, every line LOW; the reported notes' NOTE-OFF(DOZE)
join the list in string order with DOZING behind them. DOZING is refused, and DROPPED set, exactly where the
commitment left no room before the entry and no voice gave back the slot of a PITCH-FIX (R127, R129, R131). A
pending profile commits where a voice enters QUIET, and stays pending on a MUTED one (R144). The CLIP and OPEN
markers stand, but where a commit disables the string (R15, R159). Deduced: a damp change due stays due (log
22), and an estimate on its way is dropped (log 20). That no wake detection is owed for the frame just ended
is the model's choice (log 34), and so is the idle timer's 0 in DOZE (log 36). -/
def DozeEntered (s t : State) : Prop :=
  t.modes = { s.modes with mode := .doze, idle := 0, idleDue := false, wakeDue := false }
  ∧ t.globals = s.globals ∧ t.lock = s.lock ∧ t.mute = s.mute ∧ t.timebase = s.timebase
  ∧ t.frameSamples = s.frameSamples
  ∧ (let reports := (Str.all.filter fun n => (s.channel n).voice.reported).map
        (fun n => Record.noteOff n (s.channel n).voice.serial .doze)
    let before := s.queue.records.filter (fun r => !r.isBacklog) ++ reports
    let after := t.queue.records.filter (fun r => !r.isBacklog)
    let room := s.hasRoom 1 = true ∨ ∃ n, (s.channel n).voice.fix = true
    (room → after = before ++ [.notice .dozing])
      ∧ (¬room → after = before ∧ t.queue.dropped = true)
      ∧ t.queue.reserved = s.queue.reserved - s.slotsHeld ∧ t.queue.gateOpen = s.queue.gateOpen
      ∧ BacklogLaw t)
  ∧ ∀ n, (t.channel n).DozeForm
    ∧ (t.channel n).voice.serial = (s.channel n).voice.serial
    ∧ (t.channel n).detector.rearmWait = false ∧ (t.channel n).detector.dipTimer = 0
    ∧ (t.channel n).detector.refractory = 0 ∧ (t.channel n).detector.floor = []
    ∧ (t.channel n).detector.phase = .idle
    ∧ (t.channel n).staged = (s.channel n).staged
    ∧ ((s.channel n).voice.state = .muted → (t.channel n).voice = (s.channel n).voice)
    ∧ ((s.channel n).voice.state ≠ .muted →
        (t.channel n).voice = { Voice.reset with serial := (s.channel n).voice.serial })
    ∧ ((s.channel n).pendingFlag = false ∨ (s.channel n).voice.state = .muted →
        (t.channel n).lane = (s.channel n).lane.clearCrossing
        ∧ (t.channel n).capture.lastEstimate = (s.channel n).capture.lastEstimate
        ∧ (t.channel n).active = (s.channel n).active
        ∧ (t.channel n).pendingFlag = (s.channel n).pendingFlag)
    ∧ ((s.channel n).pendingFlag = true → (s.channel n).voice.state ≠ .muted →
        (t.channel n).active = (s.channel n).staged ∧ (t.channel n).pendingFlag = false)
    ∧ ((s.channel n).pendingFlag = false ∨ (s.channel n).voice.state = .muted
        ∨ (s.channel n).staged.enabled = true →
        (t.channel n).clip = (s.channel n).clip ∧ (t.channel n).openMarks = (s.channel n).openMarks)
    ∧ ((s.channel n).pendingFlag = true → (s.channel n).voice.state ≠ .muted →
        (s.channel n).staged.enabled = false →
        (t.channel n).clip = ⟨false, false, false⟩
          ∧ (t.channel n).openMarks = ⟨false, false, false⟩)

/-- DOZE and IDLE_DOZE (R176): in RUN doze entry, which commits a pending profile where a voice enters QUIET (R94,
R144). The arrivals of a judgement that came first are taken by the voices before the entry (R57, R94): `u` is
the state the VELOCITY_COMPLETIONs of the strings leave, which the model takes in string order (log 38), and
where none is to be handed over it is the state before. The CLIP and OPEN markers stand through it but where a
commit disables the string (R15, R159). A DOZE in DOZE is TAKEN and changes nothing. What the entry keeps due
of a damp change (log 22) and drops of an estimate on its way (log 20) is deduced, and that it owes no wake
detection for the frame just ended is the model's choice (log 34). That the DOZE step refuses another operand
of KIND 0Dh with BAD-FIELD 0 is the model's choice of step (log 12); that IDLE_DOZE is due by a mark FRAME_END
set is deduced (log 23), and that it does nothing where it is not is the model's choice (log 1). -/
def Obligations.DozeIsEntered : Prop :=
  ∀ (operand : Byte) (rest : List Frame) (s : State),
    (Awaits s 0x0d [0] rest → s.modes.mode = .run → Invariant s →
      ∃ u t, Runs (Str.all.map .velocityCompletion) s u ∧ exec .doze s = .next t ∧ DozeEntered u t
        ∧ ((∀ n, (s.channel n).detector.completion = none) → u = s)
        ∧ ∃ reply, t.link.slot = some reply ∧ reply.kind = 0x4d ∧ reply.outcome = .taken)
    ∧ (Awaits s 0x0d [0] rest → s.modes.mode = .doze →
      exec .doze s = .next (reply 0x0d .taken [] (s.taken rest)))
    ∧ (Awaits s 0x0d [operand] rest → s.modes.mode ≠ .start → operand ≠ 0 → operand ≠ 1 →
      exec .doze s = .next (reply 0x0d (.badField 0) [] (s.taken rest)))
    ∧ (s.modes.resetPinLow = false → s.modes.mode = .run → s.modes.idleDue = true → Invariant s →
      ∃ u t, Runs (Str.all.map .velocityCompletion) s u ∧ exec .idleDoze s = .next t
        ∧ DozeEntered u t ∧ t.link = s.link
        ∧ ((∀ n, (s.channel n).detector.completion = none) → u = s))
    ∧ (s.modes.mode ≠ .run ∨ s.modes.idleDue = false → exec .idleDoze s = .next s)

/-- The WAKE command (R177): in DOZE the mode is RUN with the idle timer at 0, every gate stays CLOSED, WOKE
names COMMAND; a frame's envelopes that still await wake detection reach the detectors of the enabled
strings (log 15), and a re-arm wait stands (log 16), both deduced. In RUN it is TAKEN and changes nothing.
That the WAKE step refuses another operand of KIND 0Dh is the model's choice of step (log 12). -/
def Obligations.WakeReturnsToRun : Prop :=
  ∀ (operand : Byte) (rest : List Frame) (s : State),
    (Awaits s 0x0d [1] rest → s.modes.mode = .doze →
      ∃ t, exec .wake s = .next t
        ∧ t.modes = { s.modes with mode := .run, idle := 0, idleDue := false, wakeDue := false }
        ∧ Offered (.notice (.woke .command)) s t
        ∧ (∀ n, t.channel n = { s.channel n with
            detector := { (s.channel n).detector with
              judgementDue := s.modes.wakeDue && (s.channel n).active.enabled } })
        ∧ t.globals = s.globals ∧ t.lock = s.lock ∧ t.mute = s.mute ∧ t.timebase = s.timebase
        ∧ ∃ reply, t.link.slot = some reply ∧ reply.kind = 0x4d ∧ reply.outcome = .taken)
    ∧ (Awaits s 0x0d [1] rest → s.modes.mode = .run →
      exec .wake s = .next (reply 0x0d .taken [] (s.taken rest)))
    ∧ (Awaits s 0x0d [operand] rest → s.modes.mode ≠ .start → operand ≠ 0 → operand ≠ 1 →
      exec .wake s = .next (reply 0x0d (.badField 0) [] (s.taken rest)))

/-- A waking string (R177, R11): enabled, its envelope at or above the wake threshold. -/
def Waking (s : State) (n : Str) : Prop :=
  (s.channel n).active.enabled = true ∧ s.globals.wakeThreshold ≤ (s.channel n).lane.envelope

/-- The bleed test of a waking string's ONSET (R100, R101, R106): it passes unless a source that took its own
attack before it in this wake, and is ACQUIRING, outweighs it. The first taken finds no such source. -/
def WakePasses (order : List Str) (n : Str) (s t : State) : Prop :=
  ∀ a ∈ (s.channel n).active.associations,
    (Str.inOrder order).idxOf a.source < (Str.inOrder order).idxOf n →
    (t.channel a.source).voice.state = .acquiring →
    a.ratio * (s.channel a.source).lane.envelope ≤ 16 * (s.channel n).lane.envelope

/-- WAKE_BY_STRING (R177, R57, R94): at a frame end in DOZE at which an enabled string's envelope reaches
the wake threshold, the mode is RUN, WOKE names the lowest such string, and each such string's gate is OPEN;
its voice, if QUIET, takes the ONSET with the extension of 2 (R35), ACQUIRING if its bleed test passes and
SUSPECT otherwise (R65, R101), the strings taken in the order the step carries (R106, log 8); a MUTED voice
stays as it is. That the wake's ONSET fills the floor window and starts the tracker as R43's does (log 17),
and that the other strings change nothing but a re-arm wait (log 16), is deduced. Where no envelope reaches
the threshold the part dozes on and the detection of this frame end is over. Where none is owed nothing
happens (the model's choice, log 1). -/
def Obligations.StringsWakeThePart : Prop :=
  ∀ (order : List Str) (s : State), s.modes.resetPinLow = false →
    (∀ lowest, s.modes.mode = .doze → s.modes.wakeDue = true → Invariant s →
      Waking s lowest → (∀ n, Waking s n → lowest.number ≤ n.number) →
      ∃ t, exec (.wakeByString order) s = .next t
        ∧ t.modes = { s.modes with mode := .run, idle := 0, idleDue := false, wakeDue := false }
        ∧ Offered (.notice (.woke (.string lowest))) s t
        ∧ t.globals = s.globals ∧ t.lock = s.lock ∧ t.mute = s.mute ∧ t.link = s.link
        ∧ t.timebase = s.timebase
        ∧ ∀ n,
          let c := s.channel n
          let d := attackedDetector c.active c.clip.active c.lane.envelope false
          let attacked (bleed : Option Nat) (v : Voice) : Channel := { c with
            detector := d, bleed := ⟨bleed, false⟩, voice := v,
            reporter := ⟨none, none, none, false, false⟩,
            capture := { restartedRing c.active c.capture with guard := c.active.attackGuard + 2 } }
          (¬Waking s n → t.channel n = { c with detector := { c.detector with rearmWait := false } })
          ∧ (Waking s n → c.voice.state = .quiet → WakePasses order n s t →
            t.channel n = attacked none (acquiringVoice none 0 c.voice))
          ∧ (Waking s n → c.voice.state = .quiet → ¬WakePasses order n s t →
            t.channel n = attacked (some 0) (bareVoice .suspect c.voice))
          ∧ (Waking s n → c.voice.state = .muted → t.channel n = { c with detector := d }))
    ∧ (s.modes.mode = .doze → s.modes.wakeDue = true → (∀ n, ¬Waking s n) →
      exec (.wakeByString order) s = .next { s with modes := { s.modes with wakeDue := false } })
    ∧ (s.modes.mode ≠ .doze ∨ s.modes.wakeDue = false →
      exec (.wakeByString order) s = .next s)

/-! ## The link (chapter 10) -/

/-- RECEIVED_BYTE (the table of R163, with the buffer of R165): each byte moves the receiver as its state says; a
line error, a bad length and a bad CHECK discard the partial frame with FRAME-ERR; a complete frame joins the
buffer, or is discarded with OVERRUN when two stand there, and sets the idle timer to 0 (R176), with which a
doze entry due at this instant is no longer due (log 23). That the inter-byte timer stands at 0 in HUNT is the
model's choice (log 37). -/
def Obligations.ReceiverTable : Prop :=
  ∀ (b : Byte) (s : State), s.modes.resetPinLow = false →
    let discarded : State := { s with link := { s.link with
      rxState := .hunt, rxLength := 0, rxBody := [], rxTimer := 0, frameErr := true } }
    exec (.receivedByte b false) s = .next discarded
    ∧ (s.link.rxState = .hunt → b = 0x7e →
      exec (.receivedByte b true) s =
        .next { s with link := { s.link with rxState := .length, rxTimer := 0 } })
    ∧ (s.link.rxState = .hunt → b ≠ 0x7e → exec (.receivedByte b true) s = .next discarded)
    ∧ (s.link.rxState = .length → 1 ≤ b.toNat → b.toNat ≤ 48 →
      exec (.receivedByte b true) s = .next { s with link := { s.link with
        rxState := .body, rxLength := b.toNat, rxBody := [], rxTimer := 0 } })
    ∧ (s.link.rxState = .length → b.toNat = 0 ∨ 48 < b.toNat →
      exec (.receivedByte b true) s = .next discarded)
    ∧ (s.link.rxState = .body →
      exec (.receivedByte b true) s = .next { s with link := { s.link with
        rxBody := s.link.rxBody ++ [b], rxTimer := 0,
        rxState := if s.link.rxLength ≤ s.link.rxBody.length + 1 then .check else .body } })
    ∧ (s.link.rxState = .check → b ≠ crc8 (byte s.link.rxLength :: s.link.rxBody) →
      exec (.receivedByte b true) s = .next discarded)
    ∧ ∀ kind payload, s.link.rxState = .check → s.link.rxBody = kind :: payload →
      b = crc8 (byte s.link.rxLength :: s.link.rxBody) →
      exec (.receivedByte b true) s = .next { s with
        modes := { s.modes with idle := 0, idleDue := false },
        link := { s.link with
          rxState := .hunt, rxLength := 0, rxBody := [], rxTimer := 0,
          buffer := if s.link.buffer.length < 2 then s.link.buffer ++ [⟨kind, payload⟩]
                    else s.link.buffer,
          overrun := s.link.overrun || !decide (s.link.buffer.length < 2) } }

/-- INTER_BYTE_TIMEOUT and FRAME_SENT (R164, R167, R175): a partial frame that has waited 9 frame ends is
discarded with FRAME-ERR; the transmitter whose frame ends is IDLE, and a restart whose reply it was is marked
as having its reply sent, to be made by RESTART_RESET (the model's division of the instant, log 11). Otherwise
nothing happens (the model's choice, log 1). So is that the inter-byte timer stands at 0 in HUNT (log 37). -/
def Obligations.TimeoutAndFrameEnd : Prop :=
  ∀ s : State, s.modes.resetPinLow = false →
    (s.link.rxState ≠ .hunt → 9 ≤ s.link.rxTimer →
      exec .interByteTimeout s = .next { s with link := { s.link with
        rxState := .hunt, rxLength := 0, rxBody := [], rxTimer := 0, frameErr := true } })
    ∧ (s.link.rxState = .hunt ∨ s.link.rxTimer < 9 → exec .interByteTimeout s = .next s)
    ∧ (∀ bytes, s.link.tx = .sending bytes false →
      exec .frameSent s = .next { s with link := { s.link with tx := .idle } })
    ∧ (∀ bytes, s.link.tx = .sending bytes true →
      exec .frameSent s = .next { s with
        link := { s.link with tx := .idle }, modes := { s.modes with restart := .replySent } })
    ∧ (s.link.tx = .idle → exec .frameSent s = .next s)

/-- TRANSMIT_TAKE (R167, R135): an idle transmitter takes the reply; without one, the head record if the event
gate is OPEN, and the commitment falls by one with BACKLOG compared (R136) and reported (R153 to R155). Once
the reply of a RESTART has ended nothing is taken (R137, log 11). With a busy transmitter or no claimant
nothing happens (the model's choice, log 1). -/
def Obligations.TransmitterTakes : Prop :=
  ∀ s : State, s.modes.resetPinLow = false →
    (s.modes.restart = .replySent → exec .transmitTake s = .next s)
    ∧ (∀ reply, s.modes.restart ≠ .replySent → s.link.tx = .idle → s.link.slot = some reply →
      exec .transmitTake s = .next { s with link := { s.link with
        slot := none, tx := .sending reply.bytes (s.modes.restart == .due) } })
    ∧ (∀ head rest, s.modes.restart ≠ .replySent → s.link.tx = .idle → s.link.slot = none →
      s.queue.gateOpen = true → s.queue.records = head :: rest →
      ∃ t extra, exec .transmitTake s = .next t
        ∧ t.link = { s.link with tx := .sending head.bytes false }
        ∧ t.queue.records = rest ++ extra ∧ extra.all Record.isBacklog = true
        ∧ t.queue.reserved = s.queue.reserved ∧ t.queue.gateOpen = true
        ∧ t.backlog.active = t.backlogNow ∧ t.channels = s.channels ∧ t.globals = s.globals
        ∧ BacklogReported s.globals { s.queue with records := rest } s.backlog t.queue t.backlog
        ∧ t.lock = s.lock ∧ t.mute = s.mute ∧ t.modes = s.modes ∧ t.timebase = s.timebase)
    ∧ (s.link.tx ≠ .idle → exec .transmitTake s = .next s)
    ∧ (s.link.slot = none → s.queue.gateOpen = false ∨ s.queue.records = [] →
      exec .transmitTake s = .next s)

/-! ## Samples and crossings (chapters 1 and 2) -/

/-- What the crossing path of an enabled string does at a sample of RUN stamped `stamp` whose conditioned
value is `x` (R5 to R9): the two filter sections, the arm and its counts, the latest transit, and the
crossing handed on with its timestamp. -/
def CrossingPath (stamp : Stamp) (x : Int) (c d : Channel) : Prop :=
  let k : Int := bandCoefficient c.active.bandCode
  let first := roundHalfAway (4096 * c.lane.filter1 + k * (4096 * x - c.lane.filter1)) 4096
  let second := roundHalfAway (4096 * c.lane.filter2 + k * (first - c.lane.filter2)) 4096
  let band : Int := 4096 * c.active.hysteresis
  let transit : Option Transit :=
    if 0 < second ∧ c.lane.filter2 ≤ 0 then some ⟨c.lane.filter2, second, stamp - 128⟩
    else c.lane.transit
  let accepted := c.lane.arm = .armed ∧ band < second ∧ c.active.persistence ≤ c.lane.above + 1
  d.lane.filter1 = first ∧ d.lane.filter2 = second
  ∧ (c.lane.arm = .disarmed → second ≤ -band → c.active.persistence ≤ c.lane.below + 1 →
      d.lane.arm = .armed ∧ d.lane.below = 0 ∧ d.lane.above = 0)
  ∧ (c.lane.arm = .disarmed → second ≤ -band → c.lane.below + 1 < c.active.persistence →
      d.lane.arm = .disarmed ∧ d.lane.below = c.lane.below + 1 ∧ d.lane.above = c.lane.above)
  ∧ (c.lane.arm = .disarmed → -band < second →
      d.lane.arm = .disarmed ∧ d.lane.below = 0 ∧ d.lane.above = c.lane.above)
  ∧ (c.lane.arm = .armed → band < second → c.lane.above + 1 < c.active.persistence →
      d.lane.arm = .armed ∧ d.lane.above = c.lane.above + 1)
  ∧ (c.lane.arm = .armed → second ≤ band → d.lane.arm = .armed ∧ d.lane.above = 0)
  ∧ (¬accepted → d.lane.transit = transit ∧ d.capture = c.capture
      ∧ d.lane.frame.crossed = c.lane.frame.crossed)
  ∧ (accepted → d.lane.arm = .disarmed ∧ d.lane.below = 0 ∧ d.lane.above = 0
      ∧ d.lane.transit = none ∧ d.lane.frame.crossed = true
      ∧ ∀ t, transit = some t → t.earlier < t.later →
        d.capture = { c.capture with handed := some (t.stamp + BitVec.ofNat 24
          ((2 * (128 * t.earlier.natAbs) + (t.later - t.earlier).natAbs)
            / (2 * (t.later - t.earlier).natAbs))) })

/-- What a SAMPLE finds still due at the instant before it, as steps in one fixed order (log 4): a restart
whose reply has ended, the crossings and estimates, the frame end with what follows it, the conditions, the
judgements, the voices' timers, the reporters and lines, and the mute logic and the mode controller. A step
that is not due changes nothing (log 1). -/
def owedSteps (s : State) : List Instr :=
  (if s.modes.restart = .replySent then [.restartReset s.link.straps] else [])
  ++ Str.all.flatMap (fun n => [.crossing n, .estimate n])
  ++ [.frameEnd s.mute.pin, .startEnd, .interByteTimeout]
  ++ Str.all.flatMap (fun n => [.clipEnd n, .openEnd n, .openActive n])
  ++ Str.all.flatMap (fun n => [.articulationJudgement n, .velocityCompletion n])
  ++ Str.all.flatMap (fun n =>
    [.bleedPerFrameStep n, .acquisitionExpiry n, .stallExpiry n, .lostLimitExpiry n])
  ++ Str.all.flatMap (fun n => [.glideBoundary n, .retriggerDropExpiry n])
  ++ [.dampAssertion, .dampDeassertion, .idleDoze, .wakeByString []]
  ++ Str.all.map .velocityCompletion

/-- SAMPLE (R1, R5 to R9, R10, R12, R15, R18, R118). What is due at the instant before it and was left out is
taken first, each by its own step, in the model's fixed order (log 4); of the state that leaves: the timebase
advances in RUN; each string's raw sample is the scaled signal limited, and one of its two neighbouring levels
where it is not whole (which of the two is free, log 2); in START it joins the accumulator; in RUN and DOZE the
frame in progress takes it, with the offset removed, CLIP is raised at a limit on an enabled string, and the
crossing path runs on an enabled string in RUN, from the held value 0 after a clearing (log 21). The pin takes
up the gate level. The queue and BACKLOG stand where no CLIP latches under the report mask; each that does
offers CONDITION(CLIP, yes), in the order the step carries (log 8) and before any other record of this instant
(log 32), and its end mark is set exactly where the record is admitted: the first ones as far as there is room,
with DROPPED set for the rest (R131, R152, R153); under the law of the markers, which every step keeps, one
slot more than there are reports is room for all of them. The filter's coefficients are those of the table of
R5. -/
def Obligations.SampleIsTaken : Prop :=
  (List.range 8).map bandCoefficient = [127, 196, 309, 477, 730, 1104, 1589, 1911]
  ∧ ∀ (signals : Eight Int) (order : List Str) (s : State),
    s.modes.resetPinLow = false →
    ∃ (u t : State) (raw : Str → Int), Runs (owedSteps s) s u
      ∧ exec (.sample signals order) s = .next t
      ∧ t.frameSamples = u.frameSamples + 1
      ∧ t.timebase = (if u.modes.mode = .run then
          (if u.timebaseRunning then u.timebase + 128 else 0) else u.timebase)
      ∧ t.timebaseRunning = (u.timebaseRunning || u.modes.mode == .run)
      ∧ t.globals = u.globals ∧ t.lock = u.lock ∧ t.mute = u.mute ∧ t.link = u.link
      ∧ t.modes = u.modes
      ∧ t.queue.reserved = u.queue.reserved ∧ t.queue.gateOpen = u.queue.gateOpen
      ∧ (let atLimit (n : Str) : Bool := decide (raw n = -2048 ∨ raw n = 2047)
        let activates (n : Str) : Bool := u.modes.mode != .start && (u.channel n).active.enabled
          && atLimit n && !(u.channel n).clip.active
        let reports : List Str := (Str.inOrder order).filter fun n =>
          activates n && !(u.channel n).clip.latched && u.globals.reportMask.clip
        let kept (q : Queue) : List Record := q.records.filter (fun r => !r.isBacklog)
        (reports = [] → t.queue = u.queue ∧ t.backlog = u.backlog)
        ∧ ∃ admitted refused : List Str, reports = admitted ++ refused
          ∧ kept t.queue
            = kept u.queue ++ admitted.map (fun n => .condition (.string .clip n) true)
          ∧ (refused ≠ [] → t.queue.dropped = true ∧ t.hasRoom 1 = false)
          ∧ (ConditionLaw s → u.hasRoom (reports.length + 1) = true → refused = [])
          ∧ ∀ n, (t.channel n).clip = (if activates n = true
              then ⟨true, true, (u.channel n).clip.endMark || admitted.contains n⟩
              else (u.channel n).clip))
      ∧ ∀ n, -2048 ≤ raw n ∧ raw n ≤ 2047
        ∧ (let scaled := signals.get n * 2 ^ (u.channel n).active.gainCode
          (128 * 2047 ≤ scaled → raw n = 2047) ∧ (scaled ≤ 128 * (-2048) → raw n = -2048)
          ∧ (128 * (-2048) ≤ scaled → scaled ≤ 128 * 2047 → (128 * raw n - scaled).natAbs < 128))
        ∧ (let c := u.channel n
          let d := t.channel n
          d.active = c.active ∧ d.staged = c.staged ∧ d.pendingFlag = c.pendingFlag
          ∧ d.detector = c.detector ∧ d.voice = c.voice ∧ d.bleed = c.bleed
          ∧ d.reporter = c.reporter ∧ d.openMarks = c.openMarks
          ∧ d.gateLine = { c.gateLine with pin := c.gateLine.high }
          ∧ (u.modes.mode = .start →
            d.lane = { c.lane with startSum := c.lane.startSum + raw n } ∧ d.capture = c.capture)
          ∧ (u.modes.mode ≠ .start →
            let x := max (-2048) (min 2047 (raw n - c.lane.offset))
            let limit := raw n = -2048 ∨ raw n = 2047
            d.lane.offset = c.lane.offset ∧ d.lane.envelope = c.lane.envelope
            ∧ d.lane.openHold = c.lane.openHold ∧ d.lane.openRelease = c.lane.openRelease
            ∧ d.lane.frame.sum = c.lane.frame.sum + raw n
            ∧ d.lane.frame.peak = max c.lane.frame.peak x.natAbs
            ∧ (d.lane.frame.limit = true ↔ c.lane.frame.limit = true ∨ limit)
            ∧ (d.lane.frame.high = true
              ↔ c.lane.frame.high = true ∨ 2040 ≤ raw n ∨ raw n ≤ -2040)
            ∧ d.lane.clipQuiet
              = (if c.active.enabled = true ∧ limit then 0 else c.lane.clipQuiet)
            ∧ (u.modes.mode = .doze ∨ c.active.enabled = false →
              d.capture = c.capture ∧ d.lane.filter1 = c.lane.filter1
              ∧ d.lane.filter2 = c.lane.filter2 ∧ d.lane.arm = c.lane.arm
              ∧ d.lane.transit = c.lane.transit)
            ∧ (u.modes.mode = .run → c.active.enabled = true →
              CrossingPath (if u.timebaseRunning then u.timebase + 128 else 0) x c d)))

/-- The output pitch as the slew step of a frame end leaves it (R110): toward the current pitch by the slew,
or by the whole distance where that is less; under slew 0, and where there is no output pitch, as it was. -/
def OutputStepped (c : Channel) (out : Option Nat) : Prop :=
  (∀ was current, c.reporter.output = some was → c.voice.currentPitch = some current →
    out = some (if c.active.slew = 0 then was
      else if current ≤ was then max current (was - c.active.slew)
      else min current (was + c.active.slew)))
  ∧ (c.reporter.output = none ∨ c.voice.currentPitch = none → out = c.reporter.output)

/-- FRAME_END after the eighth sample: what the lane (R3, R10, R12, R13, R14), the capture unit (R24), the
voice's timers (R62, R71, R82, R83), the reporter (R110, R115), the gate line (R121), the link's timer (R164),
the mute logic (R88) and the mode controller (R173, R176, R177) do in each mode, with everything else of the
part as it was. A timer started at the instant of this frame end stands (by the marks stallFresh and fresh, log
9). At a boundary the count returns to 0 and the slew step waits for GLIDE_BOUNDARY, the rest of the reporter's
one event (deduced, log 29). The idle timer is judged here and marks IDLE_DOZE due (log 23), as it does where a
SET-GLOBAL has lowered the idle time below it (log 24). An OPEN count goes by the mode at this frame end (log
26) and by the frame's samples of before a commit that enabled the string too (log 30). The inter-byte timer
rises also where a byte of this instant has just set it to 0 (log 33), and the age count where an entry has
(log 35). Before the eighth sample nothing happens (log 5). -/
def Obligations.FrameEnds : Prop :=
  ∀ (damp : Bool) (s : State), s.modes.resetPinLow = false →
    (s.frameSamples ≠ 8 → exec (.frameEnd damp) s = .next s)
    ∧ (s.frameSamples = 8 →
      ∃ t, exec (.frameEnd damp) s = .next t
        ∧ t.frameSamples = 0 ∧ t.globals = s.globals ∧ t.lock = s.lock ∧ t.queue = s.queue
        ∧ t.backlog = s.backlog ∧ t.timebase = s.timebase
        ∧ t.timebaseRunning = s.timebaseRunning
        ∧ t.link = (if s.link.rxState = .hunt then s.link
            else { s.link with rxTimer := min 9 (s.link.rxTimer + 1) })
        ∧ (s.modes.mode = .start →
            t.modes = { s.modes with settle := min 512 (s.modes.settle + 1) }
            ∧ t.mute = { s.mute with pin := damp }
            ∧ ∀ n, t.channel n = { s.channel n with
                lane := { (s.channel n).lane with frame := .empty } })
        ∧ (s.modes.mode = .run →
            t.mute = { s.mute with
              pin := damp, previous := some damp,
              changeDue := decide (s.mute.previous = some damp ∧ damp ≠ s.mute.debounced) }
            ∧ (s.globals.dozeIdleCode = 0 ∨ s.queue.records ≠ [] ∨ s.link.slot ≠ none
                ∨ (∃ n, (s.channel n).active.enabled = true ∧ (s.channel n).voice.state ≠ .quiet) →
              t.modes = { s.modes with idle := 0, idleDue := false })
            ∧ (s.globals.dozeIdleCode ≠ 0 → s.queue.records = [] → s.link.slot = none →
                (∀ n, (s.channel n).active.enabled = true → (s.channel n).voice.state = .quiet) →
              t.modes = { s.modes with
                idle := min (64 * 2 ^ s.globals.dozeIdleCode) (s.modes.idle + 1),
                idleDue := decide (64 * 2 ^ s.globals.dozeIdleCode ≤ s.modes.idle + 1) }))
        ∧ (s.modes.mode = .doze →
            t.modes = { s.modes with wakeDue := true } ∧ t.mute = { s.mute with pin := damp })
        ∧ (s.modes.mode ≠ .start → ∀ n,
            let c := s.channel n
            let d := t.channel n
            let mean := roundHalfAway c.lane.frame.sum 8
            d.active = c.active ∧ d.staged = c.staged ∧ d.pendingFlag = c.pendingFlag
            ∧ d.clip = c.clip ∧ d.openMarks = c.openMarks
            ∧ d.lane = { c.lane with
              frame := .empty
              envelope := max c.lane.frame.peak (c.lane.envelope - c.active.decayStep)
              clipQuiet := if c.active.enabled ∧ c.clip.active ∧ c.lane.frame.limit = false
                then min 128 (c.lane.clipQuiet + 1) else c.lane.clipQuiet
              offset := d.lane.offset, openHold := d.lane.openHold
              openRelease := d.lane.openRelease }
            ∧ (c.lane.offset < mean → d.lane.offset = min 2047 (c.lane.offset + 1))
            ∧ (mean < c.lane.offset → d.lane.offset = max (-2048) (c.lane.offset - 1))
            ∧ (mean = c.lane.offset → d.lane.offset = c.lane.offset)
            ∧ (s.modes.mode = .doze ∨ c.active.enabled = false ∨ c.openMarks.active = true →
              d.lane.openHold = c.lane.openHold)
            ∧ (s.modes.mode = .doze ∨ c.active.enabled = false ∨ c.openMarks.active = false →
              d.lane.openRelease = c.lane.openRelease)
            ∧ (s.modes.mode = .doze →
              d.voice = c.voice ∧ d.detector = c.detector ∧ d.capture = c.capture
              ∧ d.bleed = c.bleed ∧ d.reporter = c.reporter ∧ d.gateLine = c.gateLine)
            ∧ (s.modes.mode = .run →
              d.detector = { c.detector with judgementDue := c.active.enabled }
              ∧ d.bleed = { c.bleed with stepDue := c.voice.state == .suspect }
              ∧ (c.active.enabled = true → c.openMarks.active = false →
                d.lane.openHold = (if c.lane.frame.high ∧ c.lane.frame.crossed = false
                  then min 256 (c.lane.openHold + 1) else 0))
              ∧ (c.active.enabled = true → c.openMarks.active = true →
                d.lane.openRelease = (if c.lane.frame.high then 0
                  else min 256 (c.lane.openRelease + 1)))
              ∧ d.capture = { c.capture with
                  age := if c.capture.ring = [] then c.capture.age
                         else min 256 (c.capture.age + 1) }
              ∧ d.voice = { c.voice with
                acqTimer := if c.voice.state = .acquiring
                  then c.voice.acqTimer.map fun k => min c.active.acquisitionLimit (k + 1)
                  else c.voice.acqTimer
                stallTimer := if c.voice.state = .sounding ∧ c.voice.lost = false
                    ∧ c.voice.stallFresh = false
                  then c.voice.stallTimer.map fun k => min (stallTime c.capture.pmax) (k + 1)
                  else c.voice.stallTimer
                stallFresh := false
                lostTimer := if c.voice.state = .sounding ∧ c.voice.lost = true
                  then c.voice.lostTimer.map fun k => min c.active.lostLimit (k + 1)
                  else c.voice.lostTimer }
              ∧ (∀ count interval, c.reporter.schedule = some count →
                c.active.glideMode = .periodic interval → c.reporter.fresh = false →
                (interval ≤ count + 1 →
                  d.reporter = { c.reporter with schedule := some 0, boundaryDue := true })
                ∧ (count + 1 < interval → OutputStepped c d.reporter.output
                  ∧ d.reporter = { c.reporter with
                    output := d.reporter.output, schedule := some (count + 1) }))
              ∧ (c.reporter.schedule = none ∨ c.reporter.fresh = true →
                OutputStepped c d.reporter.output
                ∧ d.reporter = { c.reporter with output := d.reporter.output, fresh := false })
              ∧ (c.gateLine.drop = none → d.gateLine = c.gateLine)
              ∧ (∀ k, c.gateLine.drop = some k →
                d.gateLine = (if c.gateLine.fresh = true then { c.gateLine with fresh := false }
                  else { c.gateLine with drop := some (k + 1), checkDue := true })))))

/-- CROSSING (R25 to R28, R33, R36): what the capture unit does with a crossing handed on. The ring after an
entry keeps its newest 16 timestamps, and the one estimate attempted on it, if it comes about, becomes the
last estimate and is delivered to the voice. Without a crossing nothing happens (the model's choice, log 1). -/
def Obligations.CrossingIsJudged : Prop :=
  ∀ (n : Str) (s : State), s.modes.resetPinLow = false →
    ((s.channel n).capture.handed = none → exec (.crossing n) s = .next s)
    ∧ ∀ stamp, (s.channel n).capture.handed = some stamp →
      ((0 < (s.channel n).capture.guard) →
        exec (.crossing n) s = .next (s.mod n fun c => { c with capture :=
          { c.capture with handed := none, guard := c.capture.guard - 1 } }))
      ∧ ((s.channel n).capture.guard = 0 → (s.channel n).capture.ring = [] →
        exec (.crossing n) s = .next (s.mod n fun c => { c with capture :=
          { c.capture with handed := none, ring := [stamp], age := 0 } }))
      ∧ ∀ older newest, (s.channel n).capture.guard = 0 →
        (s.channel n).capture.ring = older ++ [newest] →
        (let d := (stamp - newest).toNat
        (256 ≤ (s.channel n).capture.age
            ∨ (s.channel n).capture.pmin ≤ d ∧ (s.channel n).capture.pmax < d →
          exec (.crossing n) s = .next (s.mod n fun c => { c with capture :=
            { c.capture with handed := none, ring := [stamp], age := 0 } }))
        ∧ ((s.channel n).capture.age < 256 → d < (s.channel n).capture.pmin →
          exec (.crossing n) s = .next (s.mod n fun c => { c with capture :=
            { c.capture with handed := none } }))
        ∧ ((s.channel n).capture.age < 256 → (s.channel n).capture.pmin ≤ d →
          d ≤ (s.channel n).capture.pmax →
          let ring := (older ++ [newest, stamp]).drop (older.length + 2 - 16)
          exec (.crossing n) s = .next (s.mod n fun c => { c with capture :=
            { c.capture with
              handed := none, ring := ring, age := 0,
              lastEstimate := (attempt c.active ring).or c.capture.lastEstimate,
              delivered := (attempt c.active ring).or c.capture.delivered } })))

/-- The estimate attempted after an entry (R28 to R31, R33): none at ring count 1; from E entries on the full
estimate over the newest E, delivered exactly when every interval is within the tolerance of their mean; at
2 to E − 1 the provisional one of the newest interval under FAST and none under CONFIRMED. E is that of the
table of R22. An estimate becomes the last estimate and is delivered; with none both stand. -/
def Obligations.EstimateIsFormed : Prop :=
  (edgesOf 0 = 2 ∧ edgesOf 1 = 3 ∧ edgesOf 2 = 5 ∧ edgesOf 3 = 9)
  ∧ (∀ (p : Profile) (ring : List Stamp) (u : Capture),
    (u.entry p ring).ring = ring ∧ (u.entry p ring).age = 0
    ∧ (∀ e, attempt p ring = some e →
      (u.entry p ring).lastEstimate = some e ∧ (u.entry p ring).delivered = some e)
    ∧ (attempt p ring = none →
      (u.entry p ring).lastEstimate = u.lastEstimate ∧ (u.entry p ring).delivered = u.delivered))
  ∧ ∀ (p : Profile) (ring : List Stamp),
    let edges := edgesOf p.edgeSpanCode
    (ring.length < 2 → attempt p ring = none)
    ∧ (2 ≤ ring.length → ring.length < edges → p.startPolicy = .confirmed → attempt p ring = none)
    ∧ (∀ older t1 t2, ring = older ++ [t1, t2] → ring.length < edges → p.startPolicy = .fast →
      attempt p ring = some ⟨.provisional, pitchOf (t2 - t1).toNat 1⟩)
    ∧ ∀ older first between last, ring = older ++ first :: between ++ [last] →
      between.length + 2 = edges →
      let span : Nat := (last - first).toNat
      let steady := ∀ d ∈ intervals (first :: between ++ [last]),
        64 * (((edges : Int) - 1) * (d : Int) - (span : Int)).natAbs ≤ p.toleranceCode * span
      (steady → attempt p ring = some ⟨.full, pitchOf span (edges - 1)⟩)
      ∧ (¬steady → attempt p ring = none)

/-! ## Notes (chapter 4, with R119, R120, R128, R129) -/

/-- A note that begins from acquisition (R70, R71): the note, with the line HIGH at once if no drop is
running (R120), and nothing else of the part touched. -/
structure NoteFromAcquisition (n : Str) (base : Nat) (pitch : Option Nat) (offset : Int)
    (kind : StartKind) (flag : NoteFlag) (velocity : Nat) (s t : State) : Prop where
  only : OnlyString n s t
  begun : NoteBegun n base pitch offset kind flag velocity s t
  line : (t.channel n).gateLine = { (s.channel n).gateLine with
    high := (s.channel n).gateLine.high || (s.channel n).gateLine.drop.isNone }
  bleed : (t.channel n).bleed.timer = none
  settings : (t.channel n).active = (s.channel n).active
    ∧ (t.channel n).staged = (s.channel n).staged
    ∧ (t.channel n).pendingFlag = (s.channel n).pendingFlag
  lane : (t.channel n).lane = (s.channel n).lane
  markers : (t.channel n).clip = (s.channel n).clip
    ∧ (t.channel n).openMarks = (s.channel n).openMarks

/-- A note that ends (R63, R119, R127, R129): a reported one with its NOTE-OFF, its slots given back; the
line LOW, with a retrigger drop at 0. -/
structure NoteEnded (n : Str) (reason : OffReason) (s t : State) : Prop where
  reported : (s.channel n).voice.reported = true →
    Admitted s t [.noteOff n (s.channel n).voice.serial reason]
      ∧ t.queue.reserved
        = s.queue.reserved - (if (s.channel n).voice.fix = true then 2 else 1)
  unreported : (s.channel n).voice.reported = false →
    t.queue = s.queue ∧ t.backlog = s.backlog
  line : (t.channel n).gateLine = { (s.channel n).gateLine with
    high := false, drop := some 0, checkDue := false, fresh := s.atFrameEnd }

/-- ESTIMATE where no note begins and none is in force for it (R65, R66, R69, R84, R86): ignored in QUIET,
SILENT and MUTED, held in SUSPECT, learned in ACQUIRING while velocity is absent; a provisional one is
ignored in SOUNDING (R73), and in ACQUIRING under CONFIRMED. With none delivered nothing happens (the model's
choice, log 1). -/
def Obligations.EstimateWithoutNote : Prop :=
  ∀ (n : Str) (s : State), s.modes.resetPinLow = false →
    ((s.channel n).capture.delivered = none → exec (.estimate n) s = .next s)
    ∧ ∀ e, (s.channel n).capture.delivered = some e →
      let v := (s.channel n).voice
      let answer (w : Voice) : Host.Outcome State Fault Refusal :=
        .next (s.mod n fun c => { c with
          capture := { c.capture with delivered := none }, voice := w })
      (v.state = .quiet ∨ v.state = .silent ∨ v.state = .muted →
        exec (.estimate n) s = answer v)
      ∧ (v.state = .suspect → exec (.estimate n) s = answer { v with held := some e })
      ∧ (v.state = .acquiring → v.velocity = none → e.kind = .full →
        exec (.estimate n) s = answer { v with
          currentPitch := some e.pitch, startKind := some .normal, acqExpired := false })
      ∧ (v.state = .acquiring → v.velocity = none → e.kind = .provisional →
        (s.channel n).active.startPolicy = .fast →
        exec (.estimate n) s = answer { v with
          currentPitch := some e.pitch, acqExpired := false,
          startKind := if v.startKind = some .normal then some .normal else some .provisional })
      ∧ (v.state = .acquiring → v.velocity = none → e.kind = .provisional →
        (s.channel n).active.startPolicy = .confirmed → exec (.estimate n) s = answer v)
      ∧ (v.state = .sounding → e.kind = .provisional → exec (.estimate n) s = answer v)

/-- ESTIMATE in ACQUIRING with velocity present (R69, R70): the note begins on the nearest note with the
estimate's pitch and offset, NORMAL on a full estimate, PROVISIONAL on a provisional one under FAST. -/
def Obligations.NoteBeginsOnEstimate : Prop :=
  ∀ (n : Str) (e : Estimate) (velocity : Nat) (kind : StartKind) (flag : NoteFlag) (s : State),
    s.modes.resetPinLow = false → (s.channel n).voice.Lawful →
    (s.channel n).capture.delivered = some e → (s.channel n).voice.state = .acquiring →
    (s.channel n).voice.velocity = some velocity →
    ((e.kind = .full ∧ kind = .normal ∧ flag = .none)
      ∨ (e.kind = .provisional ∧ (s.channel n).active.startPolicy = .fast
          ∧ (s.channel n).voice.startKind ≠ some .normal
          ∧ kind = .provisional ∧ flag = .provisional)) →
    let base := (e.pitch + 32) / 64
    ∃ t, exec (.estimate n) s = .next t
      ∧ NoteFromAcquisition n base (some e.pitch) ((e.pitch : Int) - 64 * (base : Int)) kind flag
          velocity s t
      ∧ (t.channel n).detector = (s.channel n).detector
      ∧ (t.channel n).capture = { (s.channel n).capture with delivered := none }

/-- VELOCITY_COMPLETION (R54, R64, R70, R71): the value taken in SUSPECT and ACQUIRING while velocity is
absent, as the larger of it and the carried velocity, and the note then begun where the pitch is known or
the limit has expired; ignored elsewhere. With none completed nothing happens (the model's choice, log 1). -/
def Obligations.VelocityIsTaken : Prop :=
  ∀ (n : Str) (s : State), s.modes.resetPinLow = false → (s.channel n).voice.Lawful →
    ((s.channel n).detector.completion = none → exec (.velocityCompletion n) s = .next s)
    ∧ ∀ value, (s.channel n).detector.completion = some value →
      let v := (s.channel n).voice
      let velocity := max value v.carried
      let answer (w : Voice) : Host.Outcome State Fault Refusal :=
        .next (s.mod n fun c => { c with
          detector := { c.detector with completion := none }, voice := w })
      ((v.state ≠ .suspect ∧ v.state ≠ .acquiring) ∨ v.velocity ≠ none →
        exec (.velocityCompletion n) s = answer v)
      ∧ (v.velocity = none →
          v.state = .suspect
            ∨ (v.state = .acquiring ∧ v.currentPitch = none ∧ v.acqExpired = false) →
        exec (.velocityCompletion n) s = answer { v with velocity := some velocity })
      ∧ (∀ pitch kind flag, v.state = .acquiring → v.velocity = none →
          v.currentPitch = some pitch → v.startKind = some kind →
          ((kind = .normal ∧ flag = .none) ∨ (kind = .provisional ∧ flag = .provisional)) →
          let base := (pitch + 32) / 64
          ∃ t, exec (.velocityCompletion n) s = .next t
            ∧ NoteFromAcquisition n base (some pitch) ((pitch : Int) - 64 * (base : Int)) kind
                flag velocity s t
            ∧ (t.channel n).detector = { (s.channel n).detector with completion := none }
            ∧ (t.channel n).capture = (s.channel n).capture)
      ∧ (v.state = .acquiring → v.velocity = none → v.currentPitch = none → v.acqExpired = true →
          ∃ t, exec (.velocityCompletion n) s = .next t
            ∧ NoteFromAcquisition n (s.channel n).active.openNote none 0 .unpitched .unpitched
                velocity s t
            ∧ (t.channel n).detector = { (s.channel n).detector with completion := none }
            ∧ (t.channel n).capture = (s.channel n).capture)

/-- The voice of a note in force after a full estimate of this pitch (R73, R74): its stall timer at 0, LOST
cleared, and the pitch, base note and candidate given. -/
def confirmedVoice (fresh : Bool) (base pitch : Option Nat) (candidate : Option Candidate)
    (v : Voice) : Voice :=
  { v with baseNote := base, currentPitch := pitch, candidate := candidate, stallTimer := some 0,
           stallFresh := fresh, lost := false, lostTimer := none }

/-- What the queue does with an offered GLIDE (the table of R130), and the last reported offset after it (R113,
R127): a queued GLIDE of the string takes the offset in place if no note record of the string stands behind it;
with none queued the GLIDE joins the list if there is room; otherwise it is dropped. -/
def GlideOffered (n : Str) (offset : Int) (s t : State) : Prop :=
  let isGlide (r : Record) : Bool := r.isGlideOf n
  let told := (t.channel n).reporter.lastReported = some offset
  (∀ before old serial after, s.queue.records = before ++ .glide n serial old :: after →
      before.any isGlide = false → after.any isGlide = false →
    (after.any (Record.isNoteOf n) = false →
      t.queue = { s.queue with records := before ++ .glide n serial offset :: after }
        ∧ t.backlog = s.backlog ∧ told)
    ∧ (after.any (Record.isNoteOf n) = true →
      t.queue = { s.queue with dropped := true } ∧ t.backlog = s.backlog
        ∧ (t.channel n).reporter.lastReported = (s.channel n).reporter.lastReported))
  ∧ (s.queue.records.any isGlide = false →
    (s.hasRoom 1 = true →
      Admitted s t [.glide n (s.channel n).voice.serial offset]
        ∧ t.queue.reserved = s.queue.reserved ∧ told)
    ∧ (s.hasRoom 1 = false →
      t.queue = { s.queue with dropped := true } ∧ t.backlog = s.backlog
        ∧ (t.channel n).reporter.lastReported = (s.channel n).reporter.lastReported))

/-- What a considered report does (R113): where the voice is reportable and the offset differs from the last
reported one by at least the deadband, GLIDE is offered; otherwise nothing is. -/
def ReportConsidered (n : Str) (reportable : Bool) (offset : Int) (s t : State) : Prop :=
  let far := (s.channel n).active.deadband
    ≤ (offset - (s.channel n).reporter.lastReported.getD 0).natAbs
  (reportable = true → far → GlideOffered n offset s t)
  ∧ (reportable = false ∨ ¬far →
    t.queue = s.queue ∧ t.backlog = s.backlog
      ∧ (t.channel n).reporter.lastReported = (s.channel n).reporter.lastReported)

/-- What an estimate taken by a note in force leaves of its string's capture unit, bleed window and reporter:
the estimate is consumed, the output pitch is as given, the schedule stands (R115), and the rest of the three is
as it was, but for the last reported offset. -/
def EstimateTaken (out : Option Nat) (c d : Channel) : Prop :=
  d.capture = { c.capture with delivered := none } ∧ d.bleed = c.bleed
  ∧ d.reporter = { c.reporter with output := out, lastReported := d.reporter.lastReported }

/-- The output offset (R112): the output pitch less 64 × the base note, clamped to the bend range. -/
def clampedOffset (c : Channel) (out base : Nat) : Int :=
  max (-(64 * (c.active.bendRange : Int)))
    (min (64 * (c.active.bendRange : Int)) ((out : Int) - 64 * (base : Int)))

/-- A full ESTIMATE at a PROVISIONAL or UNPITCHED note (R73, R111, R114, R129): the start kind is NORMAL and
the output pitch snaps; where the note was unpitched or the nearest note differs, PITCH-FIX is offered under
the fix reservation, and otherwise the reservation is released with no record, after which, under ON-ESTIMATE,
a report is considered (R116); that the queue takes the release before that report is the model's choice
(log 31). -/
def Obligations.StartIsSettled : Prop :=
  ∀ (n : Str) (pitch : Nat) (s : State),
    s.modes.resetPinLow = false → (s.channel n).voice.Lawful →
    (s.channel n).capture.delivered = some ⟨.full, pitch⟩ →
    (s.channel n).voice.state = .sounding → (s.channel n).voice.startKind ≠ some .normal →
    let base := (pitch + 32) / 64
    let offset : Int := (pitch : Int) - 64 * (base : Int)
    let v := (s.channel n).voice
    let fixes := v.startKind = some .unpitched ∨ v.baseNote ≠ some base
    ∃ t, exec (.estimate n) s = .next t ∧ OnlyString n s t
      ∧ (s.channel n).SameSource (t.channel n)
      ∧ (t.channel n).gateLine = (s.channel n).gateLine
      ∧ (t.channel n).voice = { confirmedVoice s.atFrameEnd (some base) (some pitch) v.candidate v
          with startKind := some .normal, fix := false }
      ∧ EstimateTaken (some pitch) (s.channel n) (t.channel n)
      ∧ (fixes → (t.channel n).reporter.lastReported = some offset
        ∧ (v.fix = true → Admitted s t [.pitchFix n v.serial base offset]
            ∧ t.queue.reserved = s.queue.reserved - 1)
        ∧ (v.fix = false → t.queue = s.queue ∧ t.backlog = s.backlog))
      ∧ (¬fixes → ∃ u : State, u.channel n = s.channel n ∧ u.globals = s.globals
        ∧ (v.fix = true → Admitted s u [] ∧ u.queue.reserved = s.queue.reserved - 1)
        ∧ (v.fix = false → u.queue = s.queue ∧ u.backlog = s.backlog)
        ∧ ((s.channel n).active.glideMode ≠ .onEstimate →
          t.queue = u.queue ∧ t.backlog = u.backlog
            ∧ (t.channel n).reporter.lastReported = (s.channel n).reporter.lastReported)
        ∧ ((s.channel n).active.glideMode = .onEstimate →
          ReportConsidered n v.reported (clampedOffset (s.channel n) pitch base) u t))

/-- A full ESTIMATE that keeps the note in force (R74 to R77, R110, R116): under STEP within the step
threshold of the base note, under GLIDE within the bend range, under SPLIT within the step threshold of the
current pitch and the bend range, it becomes the current pitch and leaves no candidate; the output pitch
follows at once under slew 0; under ON-ESTIMATE a report is considered. -/
def Obligations.EstimateKeepsNote : Prop :=
  ∀ (n : Str) (pitch base current : Nat) (s : State), s.modes.resetPinLow = false →
    (s.channel n).capture.delivered = some ⟨.full, pitch⟩ →
    (s.channel n).voice.state = .sounding → (s.channel n).voice.startKind = some .normal →
    (s.channel n).voice.baseNote = some base → (s.channel n).voice.currentPitch = some current →
    let c := s.channel n
    let fromBase := ((pitch : Int) - 64 * (base : Int)).natAbs
    let fromCurrent := ((pitch : Int) - (current : Int)).natAbs
    ((c.active.legatoPolicy = .step ∧ fromBase < c.active.stepThreshold)
      ∨ (c.active.legatoPolicy = .glide ∧ fromBase ≤ 64 * c.active.bendRange)
      ∨ (c.active.legatoPolicy = .split ∧ fromCurrent < c.active.stepThreshold
          ∧ fromBase ≤ 64 * c.active.bendRange)) →
    ∃ t, exec (.estimate n) s = .next t ∧ OnlyString n s t ∧ c.SameSource (t.channel n)
      ∧ (t.channel n).gateLine = c.gateLine
      ∧ (t.channel n).voice
        = confirmedVoice s.atFrameEnd (some base) (some pitch) none c.voice
      ∧ EstimateTaken (if c.active.slew = 0 then some pitch else c.reporter.output) c (t.channel n)
      ∧ (c.active.glideMode ≠ .onEstimate →
        t.queue = s.queue ∧ t.backlog = s.backlog
          ∧ (t.channel n).reporter.lastReported = c.reporter.lastReported)
      ∧ (c.active.glideMode = .onEstimate → ∀ out, (t.channel n).reporter.output = some out →
        ReportConsidered n c.voice.reported (clampedOffset c out base) s t)

/-- The candidate after an estimate (R74): one held within the candidate tolerance of it, counted once more,
or the estimate itself with count 1. -/
def NextCandidate (c : Channel) (pitch : Nat) (next : Candidate) : Prop :=
  (∃ held, c.voice.candidate = some held
      ∧ ((pitch : Int) - (held.pitch : Int)).natAbs ≤ 16 * c.active.toleranceCode
      ∧ next = { held with count := held.count + 1 })
  ∨ (next = ⟨pitch, 1⟩ ∧ ∀ held, c.voice.candidate = some held →
      16 * c.active.toleranceCode < ((pitch : Int) - (held.pitch : Int)).natAbs)

/-- A full ESTIMATE away from the note in force (R74, R75, R77, R78): the candidate's count rises if the
estimate lies within the candidate tolerance of it, and otherwise the estimate is the candidate with count 1.
Short of the step hold nothing else follows; at the step hold, where the note nearest the estimate is the
base note, the estimate becomes the current pitch and the candidate is gone, and under ON-ESTIMATE a report is
considered (R116). -/
def Obligations.CandidateIsHeld : Prop :=
  ∀ (n : Str) (pitch base current : Nat) (s : State), s.modes.resetPinLow = false →
    (s.channel n).capture.delivered = some ⟨.full, pitch⟩ →
    (s.channel n).voice.state = .sounding → (s.channel n).voice.startKind = some .normal →
    (s.channel n).voice.baseNote = some base → (s.channel n).voice.currentPitch = some current →
    let c := s.channel n
    ((c.active.legatoPolicy = .step
        ∧ c.active.stepThreshold ≤ ((pitch : Int) - 64 * (base : Int)).natAbs)
      ∨ (c.active.legatoPolicy = .split
        ∧ c.active.stepThreshold ≤ ((pitch : Int) - (current : Int)).natAbs)) →
    ∀ next : Candidate, NextCandidate c pitch next →
      (next.count < c.active.stepHold →
        exec (.estimate n) s = .next (s.mod n fun c => { c with
          capture := { c.capture with delivered := none },
          voice := confirmedVoice s.atFrameEnd (some base) (some current) (some next) c.voice }))
      ∧ (c.active.stepHold ≤ next.count → (pitch + 32) / 64 = base → 1 ≤ c.active.bendRange →
        ∃ t, exec (.estimate n) s = .next t ∧ OnlyString n s t ∧ c.SameSource (t.channel n)
          ∧ (t.channel n).gateLine = c.gateLine
          ∧ (t.channel n).voice
            = confirmedVoice s.atFrameEnd (some base) (some pitch) none c.voice
          ∧ EstimateTaken (if c.active.slew = 0 then some pitch else c.reporter.output) c
              (t.channel n)
          ∧ (c.active.glideMode ≠ .onEstimate →
            t.queue = s.queue ∧ t.backlog = s.backlog
              ∧ (t.channel n).reporter.lastReported = c.reporter.lastReported)
          ∧ (c.active.glideMode = .onEstimate → ∀ out, (t.channel n).reporter.output = some out →
            ReportConsidered n c.voice.reported (clampedOffset c out base) s t))

/-- The voice and the reporter after a legato step or a rebase (R78, R79, R111, R114, R115, R119): the next
serial, the velocity inherited, the estimate consumed, and the rest of the capture unit and the gate line as
they were. -/
structure NoteFollows (n : Str) (base pitch : Nat) (reported : Bool) (s t : State) : Prop where
  only : OnlyString n s t
  source : (s.channel n).SameSource (t.channel n)
  line : (t.channel n).gateLine = (s.channel n).gateLine
  capture : (t.channel n).capture = { (s.channel n).capture with delivered := none }
  bleed : (t.channel n).bleed = ⟨none, false⟩
  voice : (t.channel n).voice =
    { Voice.reset with
      state := .sounding, serial := (s.channel n).voice.serial + 1, baseNote := some base,
      currentPitch := some pitch, startKind := some .normal,
      velocity := (s.channel n).voice.velocity, stallTimer := some 0,
      stallFresh := s.atFrameEnd, reported := reported }
  reporter : (t.channel n).reporter =
    { output := some pitch, lastReported := some ((pitch : Int) - 64 * (base : Int)),
      schedule := if (s.channel n).active.glideMode = .onEstimate then none else some 0,
      boundaryDue := false, fresh := s.atFrameEnd }

/-- What the queue takes as one note ends and the next begins with no new pick (R78, R79, R128, R129): the
NOTE-OFF of a reported note, and the next NOTE-ON, if there is room. -/
def NotePassedOn (reported : Bool) (off on : Record) (s t : State) : Prop :=
  (reported = true →
    (s.hasRoom 2 = true → Admitted s t [off, on] ∧ t.queue.reserved = s.queue.reserved)
    ∧ (s.hasRoom 2 = false → t.queue = { s.queue with
        records := s.queue.records ++ [off], reserved := s.queue.reserved - 1, dropped := true }
        ∧ t.backlog = s.backlog))
  ∧ (reported = false →
    (s.hasRoom 2 = true → Admitted s t [on] ∧ t.queue.reserved = s.queue.reserved + 1)
    ∧ (s.hasRoom 2 = false → t.queue = { s.queue with dropped := true } ∧ t.backlog = s.backlog))

/-- A legato step (R74, R78, R128, R129): a candidate that this estimate confirms, be it the first of a step
hold of 1, and whose nearest note is not the base note, ends the note with NOTE-OFF(LEGATO), if reported, and
begins the next with NOTE-ON(LEGATO), if there is room, with no new pick. -/
def Obligations.LegatoStepIsMade : Prop :=
  ∀ (n : Str) (pitch base current : Nat) (next : Candidate) (velocity : Nat) (s : State),
    s.modes.resetPinLow = false → (s.channel n).voice.Lawful → BacklogLaw s →
    (s.channel n).capture.delivered = some ⟨.full, pitch⟩ →
    (s.channel n).voice.state = .sounding → (s.channel n).voice.startKind = some .normal →
    (s.channel n).voice.baseNote = some base → (s.channel n).voice.currentPitch = some current →
    (s.channel n).voice.velocity = some velocity → (s.channel n).voice.fix = false →
    ((s.channel n).voice.reported = true → 1 ≤ s.queue.reserved) →
    let c := s.channel n
    ((c.active.legatoPolicy = .step
        ∧ c.active.stepThreshold ≤ ((pitch : Int) - 64 * (base : Int)).natAbs)
      ∨ (c.active.legatoPolicy = .split
        ∧ c.active.stepThreshold ≤ ((pitch : Int) - (current : Int)).natAbs)) →
    NextCandidate c pitch next → c.active.stepHold ≤ next.count → (pitch + 32) / 64 ≠ base →
    let note := (pitch + 32) / 64
    let offset : Int := (pitch : Int) - 64 * (note : Int)
    ∃ t, exec (.estimate n) s = .next t ∧ NoteFollows n note pitch (s.hasRoom 2) s t
      ∧ NotePassedOn c.voice.reported (.noteOff n c.voice.serial .legato)
          (.noteOn n (c.voice.serial + 1) note velocity offset .legato) s t

/-- A rebase (R79, R117, R128 to R130): under GLIDE, and under SPLIT within the step threshold, an estimate
beyond the bend range ends the note with NOTE-OFF(SLID), if reported, and begins the next with NOTE-ON(SLID),
if there is room, with no new pick; a reported note is closed first by a report considered at the edge of the
bend range, which may merge with a queued GLIDE, be admitted or be dropped. -/
def Obligations.RebaseIsMade : Prop :=
  ∀ (n : Str) (pitch base current velocity : Nat) (s : State),
    s.modes.resetPinLow = false → (s.channel n).voice.Lawful → BacklogLaw s →
    (s.channel n).capture.delivered = some ⟨.full, pitch⟩ →
    (s.channel n).voice.state = .sounding → (s.channel n).voice.startKind = some .normal →
    (s.channel n).voice.baseNote = some base → (s.channel n).voice.currentPitch = some current →
    (s.channel n).voice.velocity = some velocity → (s.channel n).voice.fix = false →
    ((s.channel n).voice.reported = true → 1 ≤ s.queue.reserved) →
    let c := s.channel n
    (c.active.legatoPolicy = .glide
      ∨ (c.active.legatoPolicy = .split
        ∧ ((pitch : Int) - (current : Int)).natAbs < c.active.stepThreshold)) →
    64 * c.active.bendRange < ((pitch : Int) - 64 * (base : Int)).natAbs →
    let note := (pitch + 32) / 64
    let offset : Int := (pitch : Int) - 64 * (note : Int)
    let edge : Int := if pitch < 64 * base then -(64 * (c.active.bendRange : Int))
      else 64 * (c.active.bendRange : Int)
    ∃ closed t, exec (.estimate n) s = .next t
      ∧ OnlyString n s closed ∧ ReportConsidered n c.voice.reported edge s closed
      ∧ NoteFollows n note pitch (closed.hasRoom 2) s t
      ∧ NotePassedOn c.voice.reported (.noteOff n c.voice.serial .slid)
          (.noteOn n (c.voice.serial + 1) note velocity offset .slid) closed t

/-! ## CLIP and OPEN (R12 to R14, R85 to R87, R152 to R154) -/

/-- CLIP_END (R12, R154): at 128 frames without a limit sample CLIP is inactive, its count is 0, and the end of
an episode whose start was reported is reported under the mask. Otherwise nothing happens (the model's choice,
log 1). -/
def Obligations.ClipEnds : Prop :=
  ∀ (n : Str) (s : State), s.modes.resetPinLow = false →
    let c := s.channel n
    (c.clip.active = true → c.lane.clipQuiet = 128 →
      ∃ t, exec (.clipEnd n) s = .next t ∧ OnlyString n s t
        ∧ t.channel n = { c with
            clip := { c.clip with active := false, endMark := false },
            lane := { c.lane with clipQuiet := 0 } }
        ∧ (c.clip.endMark = true → s.globals.reportMask.clip = true →
          Offered (.condition (.string .clip n) false) s t)
        ∧ (c.clip.endMark = false ∨ s.globals.reportMask.clip = false →
          t.queue = s.queue ∧ t.backlog = s.backlog))
    ∧ (c.clip.active = false ∨ c.lane.clipQuiet ≠ 128 → exec (.clipEnd n) s = .next s)

/-- OPEN_ACTIVE (R13, R85, R87, R153): at 256 high frames without a crossing OPEN is active and latched,
reported first where it latches now under the mask; then the OPEN cause is added, which ends a note with
NOTE-OFF(MUTED) and mutes the voice, or joins the DAMP cause of a voice that is MUTED already. That a change
due is made in DOZE too is deduced (log 25). Otherwise nothing happens (the model's choice, log 1). -/
def Obligations.OpenMutesTheVoice : Prop :=
  ∀ (n : Str) (s : State), s.modes.resetPinLow = false →
    let c := s.channel n
    (c.Lawful → c.openMarks.active = false → c.openMarks.endMark = false →
      c.lane.openHold = 256 →
      let latchesNow := !c.openMarks.latched && s.globals.reportMask.openKind
      ∃ t, exec (.openActive n) s = .next t ∧ OnlyString n s t
        ∧ (let d := t.channel n
          d.openMarks.active = true ∧ d.openMarks.latched = true
          ∧ d.openMarks.endMark = (latchesNow && s.hasRoom 1)
          ∧ d.lane = { c.lane with openHold := 0, openRelease := 0 }
          ∧ d.voice = { bareVoice .muted c.voice with damp := c.voice.damp, openCause := true }
          ∧ d.capture = c.capture ∧ d.detector = c.detector ∧ d.clip = c.clip
          ∧ d.active = c.active ∧ d.staged = c.staged ∧ d.pendingFlag = c.pendingFlag
          ∧ (c.voice.state = .sounding → d.gateLine = { c.gateLine with
              high := false, drop := some 0, checkDue := false, fresh := s.atFrameEnd })
          ∧ (c.voice.state ≠ .sounding → d.gateLine = c.gateLine))
        ∧ t.queue.records.filter (fun r => !r.isBacklog)
          = s.queue.records.filter (fun r => !r.isBacklog)
            ++ (if (latchesNow && s.hasRoom 1) = true
                then [.condition (.string .openKind n) true] else [])
            ++ (if c.voice.reported = true then [.noteOff n c.voice.serial .muted] else [])
        ∧ t.queue.reserved = s.queue.reserved - c.voice.slots
        ∧ t.queue.gateOpen = s.queue.gateOpen
        ∧ (latchesNow = true → s.hasRoom 1 = false → t.queue.dropped = true))
    ∧ (c.openMarks.active = true ∨ c.lane.openHold ≠ 256 → exec (.openActive n) s = .next s)

/-- OPEN_END (R14, R86, R87, R154): at 256 frames that are not high OPEN is inactive and its cause removed:
the voice stays MUTED under DAMP, and otherwise is QUIET under a CLOSED gate, where a pending profile commits,
and SILENT under another; then the end is reported where the start was, under the mask. A commit there that
disables the string has cleared the end mark first, and nothing is reported (R159; the model's choice of the
order, log 28). That a change due is made in DOZE too is deduced (log 25). Otherwise nothing happens (the
model's choice, log 1). -/
def Obligations.OpenEndUnmutes : Prop :=
  ∀ (n : Str) (s : State), s.modes.resetPinLow = false →
    let c := s.channel n
    (c.Lawful → c.openMarks.active = true → c.lane.openRelease = 256 →
      let disables := c.pendingFlag = true ∧ c.voice.damp = false ∧ c.detector.gate = .closed
        ∧ c.staged.enabled = false
      ∃ t, exec (.openEnd n) s = .next t ∧ OnlyString n s t
        ∧ (let d := t.channel n
          (disables → d.clip = ⟨false, false, false⟩ ∧ d.openMarks = ⟨false, false, false⟩)
          ∧ (¬disables → d.clip = c.clip
            ∧ d.openMarks = { c.openMarks with active := false, endMark := false })
          ∧ d.lane.openHold = 0 ∧ d.lane.openRelease = 0
          ∧ (c.voice.damp = true → d.voice = { c.voice with openCause := false })
          ∧ (c.voice.damp = false → c.detector.gate ≠ .closed →
              d.voice = bareVoice .silent c.voice)
          ∧ (c.voice.damp = false → c.detector.gate = .closed → d.voice = bareVoice .quiet c.voice)
          ∧ (c.voice.damp = false → c.detector.gate = .closed → c.pendingFlag = true →
              d.active = c.staged ∧ d.pendingFlag = false)
          ∧ (c.voice.damp = true ∨ c.detector.gate ≠ .closed ∨ c.pendingFlag = false →
              d.active = c.active ∧ d.pendingFlag = c.pendingFlag
              ∧ d.lane = { c.lane with openHold := 0, openRelease := 0 }
              ∧ d.detector = c.detector ∧ d.capture = c.capture ∧ d.gateLine = c.gateLine))
        ∧ (c.openMarks.endMark = true → s.globals.reportMask.openKind = true → ¬disables →
          Offered (.condition (.string .openKind n) false) s t)
        ∧ (c.openMarks.endMark = false ∨ s.globals.reportMask.openKind = false ∨ disables →
          t.queue = s.queue ∧ t.backlog = s.backlog))
    ∧ (c.openMarks.active = false ∨ c.lane.openRelease ≠ 256 → exec (.openEnd n) s = .next s)

/-! ## Articulation (chapter 3) -/

/-- The tracker at the end of a judgement that did not start it (R53, R54): a RUNNING one takes the larger
of its peak and the envelope, sets its clip mark under an active CLIP, and counts the frame. -/
def trackedDetector (p : Profile) (clip : Bool) (envelope : Nat) (d : Detector) : Detector :=
  if d.phase = .running then
    let peak := max d.peak envelope
    let mark := d.clipMark || clip
    if d.remaining ≤ 1 then
      { d with peak := peak, clipMark := mark, remaining := 0, phase := .complete,
               velocity := some (velocityValue p mark peak),
               completion := some (velocityValue p mark peak) }
    else { d with peak := peak, clipMark := mark, remaining := d.remaining - 1 }
  else d

/-- ARTICULATION_JUDGEMENT with an ONSET (R42, R43, R65, R35, R61, R102): a CLOSED gate with no re-arm wait
under an envelope at or above the on threshold opens. A QUIET voice is ACQUIRING if the bleed test passes and
SUSPECT otherwise, with the ring restarted; any other voice takes no notice. -/
def Obligations.JudgementMakesAnOnset : Prop :=
  ∀ (n : Str) (s : State), s.modes.resetPinLow = false →
    let c := s.channel n
    c.voice.Lawful → c.detector.judgementDue = true → c.detector.gate = .closed →
    c.detector.rearmWait = false → c.active.onThreshold ≤ c.lane.envelope →
    let d := attackedDetector c.active c.clip.active c.lane.envelope false
    (c.voice.state = .quiet → bleedPasses s n = true →
      exec (.articulationJudgement n) s = .next (s.mod n fun c => { c with
        detector := d, capture := restartedRing c.active c.capture, bleed := ⟨none, false⟩,
        reporter := ⟨none, none, none, false, false⟩, voice := acquiringVoice none 0 c.voice }))
    ∧ (c.voice.state = .quiet → bleedPasses s n = false →
      exec (.articulationJudgement n) s = .next (s.mod n fun c => { c with
        detector := d, capture := restartedRing c.active c.capture, bleed := ⟨some 0, false⟩,
        reporter := ⟨none, none, none, false, false⟩, voice := bareVoice .suspect c.voice }))
    ∧ (c.voice.state ≠ .quiet →
      exec (.articulationJudgement n) s = .next (s.mod n fun c => { c with detector := d }))

/-- ARTICULATION_JUDGEMENT with no arrival: what clears the re-arm wait (R44), what enters a dip (R47, R49),
what flutters back (R50), and where nothing but the timers, the floor window and the tracker moves (R42, R43,
R45, R46, R48, R53). With no judgement due nothing happens (the model's choice, log 1). -/
def Obligations.JudgementMakesNoArrival : Prop :=
  ∀ (n : Str) (s : State), s.modes.resetPinLow = false →
    let c := s.channel n
    let e := c.lane.envelope
    let d : Detector := { c.detector with
      judgementDue := false, refractory := c.detector.refractory - 1 }
    let answer (d' : Detector) : Host.Outcome State Fault Refusal :=
      .next (s.mod n fun c => { c with detector := d' })
    let tracked (d' : Detector) : Host.Outcome State Fault Refusal :=
      answer (trackedDetector c.active c.clip.active e d')
    (c.detector.judgementDue = false → exec (.articulationJudgement n) s = .next s)
    ∧ (c.detector.judgementDue = true →
      (c.detector.gate = .closed → c.detector.rearmWait = true → e < c.active.offThreshold →
        exec (.articulationJudgement n) s = answer { d with rearmWait := false })
      ∧ (c.detector.gate = .closed → c.detector.rearmWait = true → c.active.offThreshold ≤ e →
        exec (.articulationJudgement n) s = tracked d)
      ∧ (c.detector.gate = .closed → c.detector.rearmWait = false → e < c.active.onThreshold →
        exec (.articulationJudgement n) s = tracked d)
      ∧ (c.detector.gate = .opened → e < c.active.offThreshold →
        exec (.articulationJudgement n) s
          = tracked { d with gate := .dip, dipTimer := 0, floor := [] })
      ∧ (c.detector.gate = .opened → c.active.offThreshold ≤ e → 1 ≤ c.active.surgeWindow →
        ¬Surges c →
        exec (.articulationJudgement n) s
          = tracked { d with floor := (d.floor ++ [e]).drop (d.floor.length + 1 - 16) })
      ∧ (c.detector.gate = .dip → c.active.onThreshold ≤ e →
        c.detector.dipTimer + 1 < c.active.dipMin →
        exec (.articulationJudgement n) s
          = tracked { d with gate := .opened, dipTimer := 0, floor := [e] })
      ∧ (c.detector.gate = .dip → e < c.active.onThreshold →
        c.detector.dipTimer + 1 < 4 * 2 ^ c.active.releaseHoldCode →
        exec (.articulationJudgement n) s = tracked { d with dipTimer := c.detector.dipTimer + 1 }))

/-- ARTICULATION_JUDGEMENT with a RESTRIKE (R46, R50, R53, R64, R68, R72, R80, R84, R86): a dip that ends at
the on threshold within its window, or a surge. The voice takes it with the bleed test of this instant:
SUSPECT and SILENT become ACQUIRING or (again) SUSPECT with the ring restarted; ACQUIRING starts anew on a
pass and otherwise carries the velocity; SOUNDING ends its note with NOTE-OFF(RESTRIKE) on a pass and
otherwise goes on; QUIET and MUTED take no notice. -/
def Obligations.JudgementMakesARestrike : Prop :=
  ∀ (n : Str) (s : State), s.modes.resetPinLow = false →
    let c := s.channel n
    c.voice.Lawful → c.detector.judgementDue = true →
    ((c.detector.gate = .dip ∧ c.active.onThreshold ≤ c.lane.envelope
        ∧ c.active.dipMin ≤ c.detector.dipTimer + 1 ∧ c.detector.dipTimer + 1 ≤ c.active.dipMax)
      ∨ (c.detector.gate = .opened ∧ c.active.offThreshold ≤ c.lane.envelope ∧ Surges c)) →
    let d := attackedDetector c.active c.clip.active c.lane.envelope c.detector.rearmWait
    let prior := if c.detector.phase = .idle then 0 else c.detector.peak
    let carried := max c.voice.carried (max (c.voice.velocity.getD 0)
      (if prior = 0 then 0 else velocityValue c.active false prior))
    let attacked (bleed : Option Nat) (v : Voice) : Host.Outcome State Fault Refusal :=
      .next (s.mod n fun c => { c with
        detector := d, capture := restartedRing c.active c.capture, bleed := ⟨bleed, false⟩,
        reporter := ⟨none, none, none, false, false⟩, voice := v })
    (bleedPasses s n = true →
      (c.voice.state = .suspect ∨ c.voice.state = .acquiring →
        exec (.articulationJudgement n) s = attacked none (acquiringVoice none carried c.voice))
      ∧ (c.voice.state = .silent →
        exec (.articulationJudgement n) s = attacked none (acquiringVoice none 0 c.voice))
      ∧ (c.voice.state = .sounding →
        ∃ t, exec (.articulationJudgement n) s = .next t ∧ OnlyString n s t
          ∧ NoteEnded n .restrike s t
          ∧ (t.channel n).voice = acquiringVoice none 0 c.voice
          ∧ (t.channel n).detector = d
          ∧ (t.channel n).capture = restartedRing c.active c.capture
          ∧ (t.channel n).bleed = ⟨none, false⟩
          ∧ (t.channel n).reporter = ⟨none, none, none, false, false⟩))
    ∧ (bleedPasses s n = false →
      (c.voice.state = .suspect →
        exec (.articulationJudgement n) s
          = attacked (some 0) { bareVoice .suspect c.voice with carried := carried })
      ∧ (c.voice.state = .silent →
        exec (.articulationJudgement n) s = attacked (some 0) (bareVoice .suspect c.voice))
      ∧ (c.voice.state = .acquiring →
        exec (.articulationJudgement n) s = .next (s.mod n fun c => { c with
          detector := d, voice := { c.voice with carried := carried, velocity := none } }))
      ∧ (c.voice.state = .sounding →
        exec (.articulationJudgement n) s = .next (s.mod n fun c => { c with detector := d })))
    ∧ (c.voice.state = .quiet ∨ c.voice.state = .muted →
      exec (.articulationJudgement n) s = .next (s.mod n fun c => { c with detector := d }))

/-- The bleed test of string `n` under the entries of this profile (R99, R100). -/
def BleedTest (p : Profile) (n : Str) (s : State) : Prop :=
  ∀ a ∈ p.associations,
    (s.channel a.source).voice.state = .acquiring ∨ (s.channel a.source).voice.state = .sounding →
      a.ratio * (s.channel a.source).lane.envelope ≤ 16 * (s.channel n).lane.envelope

/-- ARTICULATION_JUDGEMENT and RELEASE_HOLD_EXPIRY with a RELEASE (R49, R51, R52, R65, R68, R72, R81, R84,
R86): at the release hold under an envelope below the on threshold the gate closes and the voice is QUIET, a
sounding note with NOTE-OFF(RELEASE), a pending profile with its commit; a MUTED voice stays. After a dip
longer than the dip maximum, or at the hold, an envelope at the on threshold makes a RELEASE and an ONSET, with
the timers and the bleed test of the profile then active and the velocity reference of the one in force at the
judgement (R51, R56): ACQUIRING on a pass, SUSPECT on a fail; a MUTED voice stays. A commit at that RELEASE
which disables the string leaves no detector to make the ONSET (deduced, log 18). That RELEASE_HOLD_EXPIRY is
the judgement at the hold named by its outcome is the model's choice (log 10), and so is that it does nothing
at any other judgement (log 1, log 10). -/
def Obligations.JudgementMakesARelease : Prop :=
  ∀ (n : Str) (s : State), s.modes.resetPinLow = false →
    let c := s.channel n
    let closed : Detector := { c.detector with
      gate := .closed, dipTimer := 0, refractory := c.detector.refractory - 1,
      judgementDue := false, phase := .idle, peak := 0, remaining := 0, clipMark := false,
      velocity := none, completion := none }
    (c.voice.Lawful → c.detector.judgementDue = true → c.detector.gate = .dip →
      (c.lane.envelope < c.active.onThreshold →
        4 * 2 ^ c.active.releaseHoldCode ≤ c.detector.dipTimer + 1 →
        ∀ i, i = .articulationJudgement n ∨ i = .releaseHoldExpiry n →
          (c.voice.state = .muted ∨ c.voice.state = .quiet →
            exec i s = .next (s.mod n fun c => { c with detector := closed }))
          ∧ (c.voice.state = .suspect ∨ c.voice.state = .acquiring ∨ c.voice.state = .silent →
            c.pendingFlag = false →
            exec i s = .next (s.mod n fun c => { c with
              detector := closed, bleed := ⟨none, false⟩,
              reporter := ⟨none, none, none, false, false⟩, voice := bareVoice .quiet c.voice }))
          ∧ (c.voice.state = .sounding → c.pendingFlag = false →
            ∃ t, exec i s = .next t ∧ OnlyString n s t ∧ NoteEnded n .release s t
              ∧ (t.channel n).voice = bareVoice .quiet c.voice
              ∧ (t.channel n).detector = closed ∧ (t.channel n).capture = c.capture
              ∧ (t.channel n).reporter = ⟨none, none, none, false, false⟩)
          ∧ (c.voice.state ≠ .muted → c.voice.state ≠ .quiet → c.pendingFlag = true →
            ∃ t, exec i s = .next t ∧ OnlyString n s t
              ∧ (t.channel n).active = c.staged ∧ (t.channel n).pendingFlag = false
              ∧ (t.channel n).detector.gate = .closed
              ∧ (c.active.enabled = true → (t.channel n).voice = bareVoice .quiet c.voice)
              ∧ (c.voice.reported = true →
                Admitted s t [.noteOff n c.voice.serial .release]
                  ∧ t.queue.reserved = s.queue.reserved - c.voice.slots)
              ∧ (c.voice.reported = false → t.queue = s.queue ∧ t.backlog = s.backlog)))
      ∧ (c.active.enabled = true → c.active.onThreshold ≤ c.lane.envelope →
          c.active.dipMin ≤ c.detector.dipTimer + 1 → c.active.dipMax < c.detector.dipTimer + 1 →
        ∀ i, i = .articulationJudgement n
            ∨ (i = .releaseHoldExpiry n
              ∧ 4 * 2 ^ c.active.releaseHoldCode ≤ c.detector.dipTimer + 1) →
          let p := if c.pendingFlag = true then c.staged else c.active
          (c.voice.state = .muted →
            exec i s = .next (s.mod n fun c => { c with
              detector := attackedDetector c.active c.clip.active c.lane.envelope
                c.detector.rearmWait }))
          ∧ (c.voice.state ≠ .muted → c.voice.state ≠ .quiet →
            ∃ t, exec i s = .next t ∧ OnlyString n s t
              ∧ (t.channel n).active = p ∧ (t.channel n).pendingFlag = false
              ∧ (c.voice.reported = true → Admitted s t [.noteOff n c.voice.serial .release]
                  ∧ t.queue.reserved = s.queue.reserved - c.voice.slots)
              ∧ (c.voice.reported = false → t.queue = s.queue ∧ t.backlog = s.backlog)
              ∧ (c.pendingFlag = false →
                (t.channel n).capture = restartedRing c.active c.capture
                ∧ (c.voice.state = .sounding → NoteEnded n .release s t))
              ∧ (p.enabled = true →
                (t.channel n).detector
                  = attackedDetector { p with velocityReference := c.active.velocityReference }
                    c.clip.active c.lane.envelope c.detector.rearmWait
                ∧ (t.channel n).capture.ring = [] ∧ (t.channel n).capture.age = 0
                ∧ (t.channel n).capture.guard = p.attackGuard
                ∧ ((∀ a ∈ p.associations, a.source ≠ n) →
                  (BleedTest p n s → (t.channel n).voice = acquiringVoice none 0 c.voice
                    ∧ (t.channel n).bleed.timer = none)
                  ∧ (¬BleedTest p n s → (t.channel n).voice = bareVoice .suspect c.voice
                    ∧ (t.channel n).bleed.timer = some 0)))
              ∧ (p.enabled = false → (t.channel n).voice = bareVoice .quiet c.voice
                ∧ (t.channel n).detector.gate = .closed))))
    ∧ (c.detector.judgementDue = false ∨ c.detector.gate ≠ .dip
        ∨ c.detector.dipTimer + 1 < 4 * 2 ^ c.active.releaseHoldCode →
      exec (.releaseHoldExpiry n) s = .next s)

/-! ## Bleed (chapter 5) -/

/-- The bleed test (R99, R100): it passes exactly when, for every association entry whose source is
ACQUIRING or SOUNDING, 16 × the own envelope is at least the ratio × the source's envelope. -/
def Obligations.BleedTestCompares : Prop :=
  ∀ (n : Str) (s : State),
    bleedPasses s n = true ↔
      ∀ a ∈ (s.channel n).active.associations,
        (s.channel a.source).voice.state = .acquiring
            ∨ (s.channel a.source).voice.state = .sounding →
          a.ratio * (s.channel a.source).lane.envelope ≤ 16 * (s.channel n).lane.envelope

/-- The judgement of this frame end is still to be made and may bring the voice a RESTRIKE or a RELEASE: a dip
that ends at the on threshold past the dip minimum, or reaches the release hold below it, or a surge, with CLIP
counted as ended where its end is due (R12, R46, R50 to R52). -/
def ArrivalMayCome (c : Channel) : Prop :=
  c.detector.judgementDue = true
  ∧ ((c.detector.gate = .dip ∧ c.active.onThreshold ≤ c.lane.envelope
      ∧ c.active.dipMin ≤ c.detector.dipTimer + 1)
    ∨ (c.detector.gate = .dip ∧ c.lane.envelope < c.active.onThreshold
      ∧ 4 * 2 ^ c.active.releaseHoldCode ≤ c.detector.dipTimer + 1)
    ∨ (c.detector.gate = .opened ∧ c.active.offThreshold ≤ c.lane.envelope
      ∧ Surges { c with clip :=
          { c.clip with active := c.clip.active && c.lane.clipQuiet != 128 } }))

/-- BLEED_PER_FRAME_STEP and BLEED_WINDOW_EXPIRY (R67, R70, R102, R105): a suspicion whose test passes is
ACQUIRING, its velocity, its carried velocity and its ring kept, and a held estimate taken as if it had just
arrived, so that with velocity present its note begins in this event. A step that would begin a note waits,
changing nothing, while the judgement of this frame end may bring the voice a RESTRIKE or a RELEASE: the arrival
is so taken first (deduced, log 27). One whose test fails waits, and is SILENT when the timer, after
rising, reaches the bleed window. That BLEED_WINDOW_EXPIRY is the per-frame step named by its outcome is the
model's choice (log 10), and so is that a step not due changes nothing (log 1). -/
def Obligations.SuspicionIsStepped : Prop :=
  ∀ (n : Str) (k : Nat) (s : State), s.modes.resetPinLow = false →
    let c := s.channel n
    let passed (v : Voice) : Host.Outcome State Fault Refusal :=
      .next (s.mod n fun c => { c with
        bleed := ⟨none, false⟩, reporter := ⟨none, none, none, false, false⟩, voice := v })
    let acquiring := acquiringVoice c.voice.velocity c.voice.carried c.voice
    (c.voice.Lawful → c.voice.state = .suspect → c.bleed.stepDue = true → c.bleed.timer = some k →
      (bleedPasses s n = true →
        (c.voice.held = none → exec (.bleedPerFrameStep n) s = passed acquiring)
        ∧ (∀ e, c.voice.held = some e → e.kind = .provisional →
          c.active.startPolicy = .confirmed → exec (.bleedPerFrameStep n) s = passed acquiring)
        ∧ (∀ e kind flag, c.voice.held = some e →
          ((e.kind = .full ∧ kind = .normal ∧ flag = .none)
            ∨ (e.kind = .provisional ∧ c.active.startPolicy = .fast
                ∧ kind = .provisional ∧ flag = .provisional)) →
          (c.voice.velocity = none →
            exec (.bleedPerFrameStep n) s
              = passed { acquiring with currentPitch := some e.pitch, startKind := some kind })
          ∧ (c.voice.velocity ≠ none → ArrivalMayCome c → exec (.bleedPerFrameStep n) s = .next s)
          ∧ (∀ velocity, c.voice.velocity = some velocity →
            1 ≤ c.active.surgeWindow → ¬ArrivalMayCome c →
            let base := (e.pitch + 32) / 64
            ∃ t, exec (.bleedPerFrameStep n) s = .next t
              ∧ NoteFromAcquisition n base (some e.pitch)
                  ((e.pitch : Int) - 64 * (base : Int)) kind flag velocity s t
              ∧ (t.channel n).detector = c.detector ∧ (t.channel n).capture = c.capture)))
      ∧ (bleedPasses s n = false → c.active.bleedWindow ≤ k + 1 →
        ∀ i, i = .bleedPerFrameStep n ∨ i = .bleedWindowExpiry n →
          exec i s = passed (bareVoice .silent c.voice))
      ∧ (bleedPasses s n = false → k + 1 < c.active.bleedWindow →
        exec (.bleedPerFrameStep n) s
          = .next (s.mod n fun c => { c with bleed := ⟨some (k + 1), false⟩ })
        ∧ exec (.bleedWindowExpiry n) s = .next s)
      ∧ (bleedPasses s n = true → exec (.bleedWindowExpiry n) s = .next s))
    ∧ (c.voice.state ≠ .suspect ∨ c.bleed.stepDue = false ∨ c.bleed.timer = none →
      exec (.bleedPerFrameStep n) s = .next s ∧ exec (.bleedWindowExpiry n) s = .next s)

/-! ## Timers of the voice, the reporter and the line (R71, R82, R83, R113, R115, R121) -/

/-- ACQUISITION_EXPIRY, STALL_EXPIRY and LOST_LIMIT_EXPIRY (R71, R82, R83): at the acquisition limit with no
pitch the start is UNPITCHED, and with velocity present the note begins on the open note; at the stall time
LOST is set; at the lost limit the note ends with LOST and the voice is SILENT. Otherwise nothing happens (the
model's choice, log 1). -/
def Obligations.VoiceTimersExpire : Prop :=
  ∀ (n : Str) (s : State), s.modes.resetPinLow = false →
    let c := s.channel n
    let stall := max 8 ((4 * c.capture.pmax + 1023) / 1024)
    (c.voice.Lawful → c.voice.state = .acquiring →
      c.voice.acqTimer = some c.active.acquisitionLimit → c.voice.currentPitch = none →
      (c.voice.velocity = none →
        exec (.acquisitionExpiry n) s = .next (s.mod n fun c => { c with
          voice := { c.voice with acqExpired := true, startKind := some .unpitched } }))
      ∧ ∀ velocity, c.voice.velocity = some velocity →
        ∃ t, exec (.acquisitionExpiry n) s = .next t
          ∧ NoteFromAcquisition n c.active.openNote none 0 .unpitched .unpitched velocity s t
          ∧ (t.channel n).detector = c.detector ∧ (t.channel n).capture = c.capture)
    ∧ (c.voice.state ≠ .acquiring ∨ c.voice.acqTimer ≠ some c.active.acquisitionLimit
        ∨ c.voice.currentPitch ≠ none → exec (.acquisitionExpiry n) s = .next s)
    ∧ (c.voice.state = .sounding → c.voice.lost = false → c.voice.stallTimer = some stall →
      exec (.stallExpiry n) s = .next (s.mod n fun c => { c with
        voice := { c.voice with lost := true, lostTimer := some 0 } }))
    ∧ (c.voice.state ≠ .sounding ∨ c.voice.lost = true ∨ c.voice.stallTimer ≠ some stall →
      exec (.stallExpiry n) s = .next s)
    ∧ (c.voice.Lawful → c.voice.state = .sounding → c.voice.lost = true →
      c.voice.lostTimer = some c.active.lostLimit →
      ∃ t, exec (.lostLimitExpiry n) s = .next t ∧ OnlyString n s t ∧ NoteEnded n .lost s t
        ∧ c.SameSource (t.channel n) ∧ (t.channel n).capture = c.capture
        ∧ (t.channel n).voice = bareVoice .silent c.voice
        ∧ (t.channel n).reporter = ⟨none, none, none, false, false⟩)
    ∧ (c.voice.state ≠ .sounding ∨ c.voice.lost = false
        ∨ c.voice.lostTimer ≠ some c.active.lostLimit →
      exec (.lostLimitExpiry n) s = .next s)

/-- GLIDE_BOUNDARY (R110, R112, R113, R115, R130): the reporter's event at a boundary takes the slew step of
this frame end and then considers a report at the output offset as the step leaves it, as one event (deduced,
log 29); nothing but the reporter and the queue can change. With no boundary due nothing happens (the model's
choice, log 1). -/
def Obligations.BoundaryConsidersAReport : Prop :=
  ∀ (n : Str) (s : State), s.modes.resetPinLow = false →
    let c := s.channel n
    (c.reporter.boundaryDue = true →
      ∃ t, exec (.glideBoundary n) s = .next t ∧ OnlyString n s t
        ∧ (let r := (t.channel n).reporter
          t.channel n = { c with reporter :=
            { c.reporter with output := r.output, lastReported := r.lastReported,
                              boundaryDue := false } }
          ∧ OutputStepped c r.output
          ∧ (∀ out base, r.output = some out → c.voice.baseNote = some base →
            ReportConsidered n (decide (c.voice.state = .sounding ∧ c.voice.reported = true
                ∧ c.voice.lost = false ∧ c.voice.startKind ≠ some .unpitched))
              (clampedOffset c out base) s t)
          ∧ (r.output = none ∨ c.voice.baseNote = none →
            t.queue = s.queue ∧ t.backlog = s.backlog
              ∧ r.lastReported = c.reporter.lastReported)))
    ∧ (c.reporter.boundaryDue = false → exec (.glideBoundary n) s = .next s)

/-- RETRIGGER_DROP_EXPIRY (R121): the comparison a frame end owes. A drop timer that after rising is at least
the retrigger drop in force becomes absent, and the line rises if the voice is SOUNDING; one below it runs on,
and the comparison of this frame end has been made: a commit that shortens the drop finds no second one before
the next. Where none is owed nothing happens (the model's choice, log 1). -/
def Obligations.DropRunsOut : Prop :=
  ∀ (n : Str) (s : State), s.modes.resetPinLow = false →
    let c := s.channel n
    (c.gateLine.checkDue = true →
      (∀ k, c.gateLine.drop = some k → c.active.retriggerDrop ≤ k →
        exec (.retriggerDropExpiry n) s = .next (s.mod n fun c => { c with
          gateLine := { c.gateLine with
            high := decide (c.voice.state = .sounding), drop := none, checkDue := false } }))
      ∧ (c.gateLine.drop = none ∨ (∃ k, c.gateLine.drop = some k ∧ k < c.active.retriggerDrop) →
        exec (.retriggerDropExpiry n) s = .next (s.mod n fun c => { c with
          gateLine := { c.gateLine with checkDue := false } })))
    ∧ (c.gateLine.checkDue = false → exec (.retriggerDropExpiry n) s = .next s)

/-! ## Numbers -/

/-- The period in counts of a note number, which may be fractional (R20): 4,096,000 divided by
440 × 2^((note − 69) / 12). -/
noncomputable def periodOfNote (note : ℝ) : ℝ := 4096000 / (440 * 2 ^ ((note - 69) / 12))

/-- The limits of R20: Pmin is the period of note open note + span + bend range + 1/2 rounded down, Pmax that
of open note − down allowance − 1/2 rounded up, and these are the limits a capture unit takes; Pmin is at least
754 counts, Pmax at most 257,836, and Pmin below Pmax; an interval equal to either is entered; and the table of
the default profiles. -/
def Obligations.PeriodLimitsAreThoseOfTheNotes : Prop :=
  (∀ (n : Str) (p : Profile), p.Valid n →
    p.pmin = ⌊periodOfNote (p.openNote + p.span + p.bendRange + 1 / 2)⌋₊
    ∧ p.pmax = ⌈periodOfNote (p.openNote - p.downAllowance - 1 / 2)⌉₊
    ∧ (Capture.reset p).pmin = p.pmin ∧ (Capture.reset p).pmax = p.pmax
    ∧ p.openNote + p.span + p.bendRange ≤ 112 ∧ 12 ≤ p.openNote - p.downAllowance
    ∧ 754 ≤ p.pmin ∧ p.pmax ≤ 257836 ∧ p.pmin < p.pmax
    ∧ ∀ (u : Capture) (older : List Stamp) (newest stamp : Stamp),
      u.pmin = p.pmin → u.pmax = p.pmax → u.age < 256 → u.ring = older ++ [newest] →
      (stamp - newest).toNat = p.pmin ∨ (stamp - newest).toNat = p.pmax →
      u.judge stamp = .entered)
  ∧ (Str.all.map fun n => ((defaultProfile n).openNote, (defaultProfile n).pmin,
      (defaultProfile n).pmax))
    = [(64, 2395, 14357), (59, 3197, 19164), (55, 4028, 24145), (50, 5377, 32230),
       (45, 7178, 43022), (40, 9581, 57427), (35, 12790, 76655), (30, 17072, 102323)]

/-- The pitch value of a period (R32) over the range of the shortest to the longest period of any string: it
differs from 64 × (69 + 12 × log2(f / 440)) by at most the half unit of the rounding and the 1/16 pu of the
precision the rule asks for (log 3). -/
def Obligations.PitchIsThatOfThePeriod : Prop :=
  ∀ num den : Nat, 0 < den → 754 * den ≤ num → num ≤ 257836 * den →
    |(pitchOf num den : ℝ) - 64 * (69 + 12 * Real.logb 2 (4096000 * den / num / 440))| ≤ 9 / 16

/-- The value of one byte of a record, and of two, low byte first (R171). -/
def byteAt (r : List Byte) (i : Nat) : Nat := (r.getD i 0).toNat
def pairAt (r : List Byte) (i : Nat) : Nat := byteAt r i + 256 * byteAt r (i + 1)

/-- The checks charged to a field of a profile record for string `n`, by the field's index: its range (R140,
R141) and the cross checks of R142, at the byte places of R172. -/
def ProfileFieldPasses (n : Str) (r : List Byte) : Nat → Prop
  | 1 => byteAt r 0 ≤ 1
  | 2 => 12 ≤ byteAt r 1 ∧ byteAt r 1 ≤ 100
  | 3 => 12 ≤ byteAt r 2 ∧ byteAt r 2 ≤ 36
  | 4 => byteAt r 3 ≤ 5 ∧ 12 + byteAt r 3 ≤ byteAt r 1
  | 5 => 1 ≤ byteAt r 4 ∧ byteAt r 4 ≤ 24 ∧ byteAt r 1 + byteAt r 2 + byteAt r 4 ≤ 112
  | 6 => byteAt r 5 ≤ 7
  | 7 => byteAt r 6 ≤ 7
  | 8 => byteAt r 7 ≤ 255
  | 9 => 1 ≤ byteAt r 8 ∧ byteAt r 8 ≤ 4
  | 10 => 1 ≤ byteAt r 9
  | 11 => byteAt r 10 ≤ 3
  | 12 => byteAt r 11 ≤ 7
  | 13 => 1 ≤ byteAt r 12 ∧ byteAt r 12 ≤ 8
  | 14 => 1 ≤ pairAt r 13 ∧ pairAt r 13 ≤ 2047
  | 15 => pairAt r 15 ≤ 2047 ∧ pairAt r 15 ≤ pairAt r 13
  | 16 => byteAt r 17 ≤ 254
  | 17 => 1 ≤ byteAt r 18 ∧ byteAt r 17 < byteAt r 18
  | 18 => byteAt r 19 ≤ 10 ∧ byteAt r 18 < 4 * 2 ^ byteAt r 19
  | 19 => byteAt r 20 = 0 ∨ 10 ≤ byteAt r 20 ∧ byteAt r 20 ≤ 32
  | 20 => 2 ≤ byteAt r 21 ∧ byteAt r 21 ≤ 16
  | 21 => 4 ≤ byteAt r 22
  | 22 => 1 ≤ byteAt r 23 ∧ byteAt r 23 ≤ 16
  | 23 => 64 ≤ pairAt r 24 ∧ pairAt r 24 ≤ 2048
  | 24 => byteAt r 26 ≤ 1
  | 25 => 8 ≤ byteAt r 27 ∧ byteAt r 23 ≤ byteAt r 27
  | 26 => byteAt r 28 ≤ 2
  | 27 => 16 ≤ byteAt r 29 ∧ byteAt r 29 ≤ 96
  | 28 => 1 ≤ byteAt r 30 ∧ byteAt r 30 ≤ 4
  | 29 => 4 ≤ pairAt r 31 ∧ pairAt r 31 ≤ 1023
  | 30 => byteAt r 33 ≤ 2
    ∧ (1 ≤ byteAt r 33 → 1 ≤ byteAt r 34 ∧ byteAt r 34 ≤ 8 ∧ 1 ≤ byteAt r 35 ∧ byteAt r 35 ≤ 64
        ∧ byteAt r 34 ≠ n.number)
    ∧ (byteAt r 33 = 2 → 1 ≤ byteAt r 36 ∧ byteAt r 36 ≤ 8 ∧ 1 ≤ byteAt r 37 ∧ byteAt r 37 ≤ 64
        ∧ byteAt r 36 ≠ n.number ∧ byteAt r 34 ≠ byteAt r 36)
  | 31 => 1 ≤ byteAt r 38
  | 32 => byteAt r 39 ∈ [0, 1, 2, 4, 8]
  | 33 => byteAt r 40 ≤ 15
  | 34 => byteAt r 41 ≤ 255
  | 35 => 1 ≤ byteAt r 42 ∧ byteAt r 42 ≤ 63
  | _ => True

/-- The range check of a field of a global record, by the field's index (R149, R172). -/
def GlobalFieldPasses (r : List Byte) : Nat → Prop
  | 1 => byteAt r 0 ≤ 2
  | 2 => byteAt r 1 ≤ 15
  | 3 => 1 ≤ pairAt r 2 ∧ pairAt r 2 ≤ 2047
  | 4 => byteAt r 4 ≤ 7
  | 5 => 8 ≤ byteAt r 5 ∧ byteAt r 5 ≤ 31
  | _ => True

/-- What validation answers for a record of `fields` fields (R142): the first index whose checks fail, and
none where all pass. -/
def NamesTheFirstFailing (fields : Nat) (passes : Nat → Prop) (answer : Option Nat) : Prop :=
  (∀ index, answer = some index ↔ 1 ≤ index ∧ index ≤ fields ∧ ¬passes index
    ∧ ∀ j, 1 ≤ j → j < index → passes j)
  ∧ (answer = none ↔ ∀ j, 1 ≤ j → j ≤ fields → passes j)

/-- The fields a profile holds are those of its record, at the byte places and with the codes of R172. -/
def HoldsTheFields (p : Profile) (r : List Byte) : Prop :=
  p.enabled = decide (byteAt r 0 = 1) ∧ p.openNote = byteAt r 1 ∧ p.span = byteAt r 2
  ∧ p.downAllowance = byteAt r 3 ∧ p.bendRange = byteAt r 4 ∧ p.gainCode = byteAt r 5
  ∧ p.bandCode = byteAt r 6 ∧ p.hysteresis = byteAt r 7 ∧ p.persistence = byteAt r 8
  ∧ p.decayStep = byteAt r 9 ∧ p.edgeSpanCode = byteAt r 10 ∧ p.attackGuard = byteAt r 11
  ∧ p.toleranceCode = byteAt r 12 ∧ p.onThreshold = pairAt r 13 ∧ p.offThreshold = pairAt r 15
  ∧ p.dipMin = byteAt r 17 ∧ p.dipMax = byteAt r 18 ∧ p.releaseHoldCode = byteAt r 19
  ∧ p.surgeRatio = byteAt r 20 ∧ p.surgeWindow = byteAt r 21 ∧ p.surgeRefractory = byteAt r 22
  ∧ p.velocityWindow = byteAt r 23 ∧ p.velocityReference = pairAt r 24
  ∧ [StartPolicy.fast, .confirmed][byteAt r 26]? = some p.startPolicy
  ∧ p.acquisitionLimit = byteAt r 27
  ∧ [LegatoPolicy.step, .glide, .split][byteAt r 28]? = some p.legatoPolicy
  ∧ p.stepThreshold = byteAt r 29 ∧ p.stepHold = byteAt r 30 ∧ p.lostLimit = pairAt r 31
  ∧ p.associations.map (fun a => (a.source.number, a.ratio))
    = [(byteAt r 34, byteAt r 35), (byteAt r 36, byteAt r 37)].take (byteAt r 33)
  ∧ p.bleedWindow = byteAt r 38
  ∧ p.glideMode = (if byteAt r 39 = 0 then .onEstimate else .periodic (byteAt r 39))
  ∧ p.deadband = byteAt r 40 ∧ p.slew = byteAt r 41 ∧ p.retriggerDrop = byteAt r 42

/-- The fields global settings hold are those of their record, at the byte places and with the codes of R172:
the report mask's bits 0, 1 and 2 are CLIP, OPEN and BACKLOG. -/
def HoldsTheSettings (g : Globals) (r : List Byte) : Prop :=
  [DampMode.off, .follow, .latch][byteAt r 0]? = some g.dampMode
  ∧ g.dozeIdleCode = byteAt r 1 ∧ g.wakeThreshold = pairAt r 2
  ∧ byteAt r 4 = g.reportMask.clip.toNat + 2 * g.reportMask.openKind.toNat
    + 4 * g.reportMask.backlog.toNat
  ∧ g.highWater = byteAt r 5

/-- A profile and its record say the same, and so do the global settings and theirs (R140 to R142, R149,
R172): the record of a valid one has its length, holds its fields at the byte places of R172 with entry bytes
beyond the count 0, passes every check and reads back as it; a record that passes every check holds a valid one
with the fields at those places; and validation names the first field, in index order, of which a check fails,
each cross check charged to the field R142 gives it. -/
def Obligations.RecordsAgreeWithSettings : Prop :=
  (∀ n : Str,
    (∀ p : Profile, p.Valid n → p.bytes.length = 43 ∧ HoldsTheFields p p.bytes
      ∧ (∀ i, 34 + 2 * p.associations.length ≤ i → i < 38 → byteAt p.bytes i = 0)
      ∧ firstFailing (profileChecks n p.bytes) = none ∧ profileOf p.bytes = p)
    ∧ ∀ record : List Byte, record.length = 43 →
      NamesTheFirstFailing 35 (ProfileFieldPasses n record) (firstFailing (profileChecks n record))
      ∧ (firstFailing (profileChecks n record) = none →
        (profileOf record).Valid n ∧ HoldsTheFields (profileOf record) record))
  ∧ (∀ g : Globals, g.Valid → g.bytes.length = 6 ∧ HoldsTheSettings g g.bytes
    ∧ firstFailing (globalChecks g.bytes) = none ∧ globalsOf g.bytes = g)
  ∧ ∀ record : List Byte, record.length = 6 →
    NamesTheFirstFailing 5 (GlobalFieldPasses record) (firstFailing (globalChecks record))
    ∧ (firstFailing (globalChecks record) = none →
      (globalsOf record).Valid ∧ HoldsTheSettings (globalsOf record) record)

/-- A frame laid out as R162 says and received byte by byte from HUNT is the frame that joins the command
input buffer (R163, R165), and it sets the idle timer to 0 (R176), with which a doze entry due at this instant
is no longer due (log 23). That the inter-byte timer stands at 0 in HUNT is the model's choice (log 37). -/
def Obligations.FramesAreReceived : Prop :=
  ∀ (kind : Byte) (payload : List Byte) (s : State), s.modes.resetPinLow = false →
    s.link.rxState = .hunt → payload.length ≤ 47 → s.link.buffer.length < 2 →
    Runs ((frameBytes kind payload).map fun b => .receivedByte b true) s { s with
      modes := { s.modes with idle := 0, idleDue := false },
      link := { s.link with rxLength := 0, rxBody := [], rxTimer := 0,
                            buffer := s.link.buffer ++ [⟨kind, payload⟩] } }

/-- One bit taken into the check register (R162): the register moves up by one, and where the bit that leaves it
and the bit taken differ, the polynomial x^8 + x^2 + x + 1 without its leading term is added. -/
def checkBit (register : BitVec 8) (bit : Bool) : BitVec 8 :=
  if register.getLsbD 7 != bit then (register <<< 1) ^^^ 0x07#8 else register <<< 1

/-- CHECK of R162: the register starts at 00h, the bytes are taken in order, each most significant bit first,
with no reflection and no inversion. -/
def checkByte (bytes : List Byte) : BitVec 8 :=
  (bytes.flatMap fun b => [7, 6, 5, 4, 3, 2, 1, 0].map b.getLsbD).foldl checkBit 0x00#8

/-- The frames the part sends, byte for byte (R162, R166, R171): SYNC, LEN, KIND, payload and CHECK, the CRC of
R162, which the receiver compares too; each record's KIND and payload with the codes of its flag, reason, kind
and topic, signed fields in two's complement and two-byte fields low byte first; the reset cause record; a
reply's KIND, summary, outcome and data, with the outcome codes. And two records whose fields lie in their
ranges and whose frames are the same bytes are the same record (R125). -/
def Obligations.RecordFramesDiffer : Prop :=
  (∀ (kind : Byte) (payload : List Byte),
    let checked := byte (payload.length + 1) :: kind :: payload
    frameBytes kind payload = 0x7e :: checked ++ [checkByte checked])
  ∧ (∀ bytes : List Byte, crc8 bytes = checkByte bytes)
  ∧ (∀ (n : Str) (serial : Byte) (base velocity : Nat) (offset : Int) (flag : NoteFlag)
      (reason : OffReason) (now : Bool) (causes : Causes),
    let low (x : Int) : Byte := BitVec.ofNat 8 ((BitVec.ofInt 16 x).toNat % 256)
    let high (x : Int) : Byte := BitVec.ofNat 8 ((BitVec.ofInt 16 x).toNat / 256)
    let number : Byte := BitVec.ofNat 8 n.number
    let yes : Byte := if now then 1 else 0
    (Record.noteOn n serial base velocity offset flag).bytes = frameBytes 0x80
        [number, serial, BitVec.ofNat 8 base, BitVec.ofNat 8 velocity, BitVec.ofInt 8 offset, flag.code]
    ∧ (Record.noteOff n serial reason).bytes = frameBytes 0x81 [number, serial, reason.code]
    ∧ (Record.glide n serial offset).bytes
      = frameBytes 0x82 [number, serial, low offset, high offset]
    ∧ (Record.pitchFix n serial base offset).bytes
      = frameBytes 0x83 [number, serial, BitVec.ofNat 8 base, BitVec.ofInt 8 offset]
    ∧ (Record.condition (.string .clip n) now).bytes = frameBytes 0x84 [number, 0, yes]
    ∧ (Record.condition (.string .openKind n) now).bytes = frameBytes 0x84 [number, 1, yes]
    ∧ (Record.condition .backlog now).bytes = frameBytes 0x84 [0, 2, yes]
    ∧ (Record.notice (.hello causes)).bytes = frameBytes 0x85 [0, causes.byte]
    ∧ (Record.notice (.woke (.string n))).bytes = frameBytes 0x85 [1, number]
    ∧ (Record.notice (.woke .command)).bytes = frameBytes 0x85 [1, 0]
    ∧ (Record.notice .dozing).bytes = frameBytes 0x85 [2]
    ∧ (Record.notice .dampOn).bytes = frameBytes 0x85 [3]
    ∧ (Record.notice .dampOff).bytes = frameBytes 0x85 [4]
    ∧ causes.byte.toNat = causes.power.toNat + 2 * causes.pin.toNat
      + 4 * causes.supplyDrop.toNat + 8 * causes.restart.toNat)
  ∧ [NoteFlag.none, .provisional, .unpitched, .legato, .slid].map NoteFlag.code = [0, 1, 2, 3, 4]
  ∧ [OffReason.release, .restrike, .legato, .slid, .lost, .flush, .reconfigure, .damped, .muted,
      .doze].map OffReason.code = [1, 2, 3, 4, 5, 6, 7, 8, 9, 10]
  ∧ (∀ r : Reply,
    r.bytes = frameBytes r.kind (r.summary0 :: r.summary1 :: (r.outcome.bytes ++ r.data)))
  ∧ [ReplyOutcome.taken, .committed, .staged, .nothing, .unknownKind, .badLength, .badString, .locked,
      .wrongMode, .wrongState].map ReplyOutcome.bytes
    = [[0x00], [0x01], [0x02], [0x03], [0x80], [0x81], [0x82], [0x84], [0x85], [0x86]]
  ∧ (∀ index : Nat, (ReplyOutcome.badField index).bytes = [0x83, BitVec.ofNat 8 index])
  ∧ ∀ r r' : Record, r.inRange → r'.inRange → r.bytes = r'.bytes → r = r'

/-! ## What every step keeps -/

/-- A sound state stays sound through every step: the laws of the settings, the capture units, the timebase,
the markers, the queue with its reservations, BACKLOG and the order of its note records, the strings, the damp
mute, START, DOZE, the pending flags, the link with the reply of a RESTART in transmission, and the frame in
progress. Four of its clauses are the model's own: a disabled or dozing string holds no velocity completion not
yet handed over (log 19), and no crossing and no estimate on its way (log 20); the inter-byte timer holds 0 in
HUNT (log 37); and the mark by which a frame in transmission is a RESTART's reply (log 11). -/
def Obligations.SoundnessIsKept : Prop :=
  ∀ s t : State, Invariant s → step s = .next t → Invariant t

/-- The laws of the capture units (R21, R23, R24, R25) are kept by every step. -/
def Obligations.CaptureLawIsKept : Prop :=
  ∀ s t : State, CaptureLaw s → step s = .next t → CaptureLaw t

/-- The law of the condition markers (R152, R154) and the law that no string has two queued GLIDEs (R130)
are kept by every step. -/
def Obligations.MarkersAndGlidesStayLawful : Prop :=
  ∀ s t : State, step s = .next t →
    (ConditionLaw s → ConditionLaw t) ∧ (OneGlideLaw s → OneGlideLaw t)

/-- LOCK (R150): while it is set, no step but a reset changes the global settings or a staged profile, and
none clears it. -/
def Obligations.LockHolds : Prop :=
  ∀ s t : State, s.lock = true → s.modes.restart = .none → step s = .next t →
    (∀ straps, s.pending.head? ≠ some (.powerOn straps)
      ∧ s.pending.head? ≠ some (.supplyDrop straps)) →
    s.pending.head? ≠ some .resetN →
    t.lock = true ∧ t.globals = s.globals ∧ ∀ n, (t.channel n).staged = (s.channel n).staged
end

