-- ==== Sys2Proof/Laws/State.lean ====
section
/-! SUPPORT. What each update of State leaves in each field, true by definition: no later proof needs to
unfold a record update. -/

namespace Sys2Proof

/-! ## One value for each string -/

@[simp] theorem Eight.get_set_self {α : Type} (e : Eight α) (n : Str) (x : α) :
    (e.set n x).get n = x := by cases n <;> rfl

theorem Eight.get_set_ne {α : Type} (e : Eight α) {n m : Str} (x : α) (h : m ≠ n) :
    (e.set n x).get m = e.get m := by cases n <;> cases m <;> first | rfl | exact absurd rfl h

theorem Eight.get_set {α : Type} (e : Eight α) (n m : Str) (x : α) :
    (e.set n x).get m = if m = n then x else e.get m := by
  cases n <;> cases m <;> rfl

@[simp] theorem Eight.get_of {α : Type} (f : Str → α) (n : Str) : (Eight.of f).get n = f n := by
  cases n <;> rfl

theorem Eight.ext_get {α : Type} {e d : Eight α} (h : ∀ n, e.get n = d.get n) : e = d := by
  have h1 := h .s1; have h2 := h .s2; have h3 := h .s3; have h4 := h .s4
  have h5 := h .s5; have h6 := h .s6; have h7 := h .s7; have h8 := h .s8
  cases e; cases d; simp only [Eight.get] at *; subst_vars; rfl

@[simp] theorem Eight.set_get {α : Type} (e : Eight α) (n : Str) : e.set n (e.get n) = e := by
  cases n <;> rfl

@[simp] theorem Eight.set_set {α : Type} (e : Eight α) (n : Str) (x y : α) :
    (e.set n x).set n y = e.set n y := by cases n <;> rfl

theorem Str.mem_all (n : Str) : n ∈ Str.all := by cases n <;> simp [Str.all]

theorem Str.all_nodup : Str.all.Nodup := by decide

namespace Machine

/-! ## One string changed -/

@[simp] theorem State.channel_mod_self (s : State) (n : Str) (f : Channel → Channel) :
    (s.mod n f).channel n = f (s.channel n) := by simp [State.channel, State.mod]

theorem State.channel_mod_ne (s : State) {n m : Str} (f : Channel → Channel) (h : m ≠ n) :
    (s.mod n f).channel m = s.channel m := by simp [State.channel, State.mod, Eight.get_set_ne, h]

theorem State.channel_mod (s : State) (n m : Str) (f : Channel → Channel) :
    (s.mod n f).channel m = if m = n then f (s.channel n) else s.channel m := by
  simp [State.channel, State.mod, Eight.get_set]

@[simp] theorem State.mod_mod (s : State) (n : Str) (f g : Channel → Channel) :
    (s.mod n f).mod n g = s.mod n (fun c => g (f c)) := by simp [State.mod]

/-- A change of one string depends only on what it makes of that string. -/
theorem State.mod_congr {s : State} {n : Str} {f g : Channel → Channel}
    (h : f (s.channel n) = g (s.channel n)) : s.mod n f = s.mod n g := by
  unfold State.mod; exact congrArg (fun c => { s with channels := s.channels.set n c }) h

theorem State.mod_eq_self {s : State} {n : Str} {f : Channel → Channel}
    (h : f (s.channel n) = s.channel n) : s.mod n f = s := by
  unfold State.mod
  have : f (s.channels.get n) = s.channels.get n := h
  rw [this, Eight.set_get]

@[simp] theorem State.channel_modAll (s : State) (n : Str) (f : Channel → Channel) :
    (s.modAll f).channel n = f (s.channel n) := by simp [State.channel, State.modAll]

@[simp] theorem State.globals_mod (s : State) (n : Str) (f : Channel → Channel) : (s.mod n f).globals = s.globals := rfl
@[simp] theorem State.lock_mod (s : State) (n : Str) (f : Channel → Channel) : (s.mod n f).lock = s.lock := rfl
@[simp] theorem State.timebase_mod (s : State) (n : Str) (f : Channel → Channel) : (s.mod n f).timebase = s.timebase := rfl
@[simp] theorem State.timebaseRunning_mod (s : State) (n : Str) (f : Channel → Channel) : (s.mod n f).timebaseRunning = s.timebaseRunning := rfl
@[simp] theorem State.frameSamples_mod (s : State) (n : Str) (f : Channel → Channel) : (s.mod n f).frameSamples = s.frameSamples := rfl
@[simp] theorem State.queue_mod (s : State) (n : Str) (f : Channel → Channel) : (s.mod n f).queue = s.queue := rfl
@[simp] theorem State.backlog_mod (s : State) (n : Str) (f : Channel → Channel) : (s.mod n f).backlog = s.backlog := rfl
@[simp] theorem State.mute_mod (s : State) (n : Str) (f : Channel → Channel) : (s.mod n f).mute = s.mute := rfl
@[simp] theorem State.link_mod (s : State) (n : Str) (f : Channel → Channel) : (s.mod n f).link = s.link := rfl
@[simp] theorem State.modes_mod (s : State) (n : Str) (f : Channel → Channel) : (s.mod n f).modes = s.modes := rfl
@[simp] theorem State.pending_mod (s : State) (n : Str) (f : Channel → Channel) : (s.mod n f).pending = s.pending := rfl

@[simp] theorem State.globals_modAll (s : State) (f : Channel → Channel) : (s.modAll f).globals = s.globals := rfl
@[simp] theorem State.lock_modAll (s : State) (f : Channel → Channel) : (s.modAll f).lock = s.lock := rfl
@[simp] theorem State.timebase_modAll (s : State) (f : Channel → Channel) : (s.modAll f).timebase = s.timebase := rfl
@[simp] theorem State.timebaseRunning_modAll (s : State) (f : Channel → Channel) : (s.modAll f).timebaseRunning = s.timebaseRunning := rfl
@[simp] theorem State.frameSamples_modAll (s : State) (f : Channel → Channel) : (s.modAll f).frameSamples = s.frameSamples := rfl
@[simp] theorem State.queue_modAll (s : State) (f : Channel → Channel) : (s.modAll f).queue = s.queue := rfl
@[simp] theorem State.backlog_modAll (s : State) (f : Channel → Channel) : (s.modAll f).backlog = s.backlog := rfl
@[simp] theorem State.mute_modAll (s : State) (f : Channel → Channel) : (s.modAll f).mute = s.mute := rfl
@[simp] theorem State.link_modAll (s : State) (f : Channel → Channel) : (s.modAll f).link = s.link := rfl
@[simp] theorem State.modes_modAll (s : State) (f : Channel → Channel) : (s.modAll f).modes = s.modes := rfl
@[simp] theorem State.pending_modAll (s : State) (f : Channel → Channel) : (s.modAll f).pending = s.pending := rfl

/-! ## States written out -/

@[simp] theorem State.channel_mk (channels : Eight Channel) (globals : Globals) (lock : Bool)
    (timebase : Stamp) (running : Bool) (frameSamples : Nat) (queue : Queue) (backlog : Markers)
    (mute : Mute) (link : Link) (modes : Modes) (pending : List Instr) (n : Str) :
    (State.mk channels globals lock timebase running frameSamples queue backlog mute link modes
      pending).channel n = channels.get n := rfl

@[simp] theorem State.get_channels (s : State) (n : Str) : s.channels.get n = s.channel n := rfl

theorem State.ext_channels {s t : State} (h : ∀ n, s.channel n = t.channel n) :
    s.channels = t.channels := Eight.ext_get h

/-! ## The queue's updates -/

@[simp] theorem State.channels_append (s : State) (r : Record) : (s.append r).channels = s.channels := rfl
@[simp] theorem State.globals_append (s : State) (r : Record) : (s.append r).globals = s.globals := rfl
@[simp] theorem State.lock_append (s : State) (r : Record) : (s.append r).lock = s.lock := rfl
@[simp] theorem State.timebase_append (s : State) (r : Record) : (s.append r).timebase = s.timebase := rfl
@[simp] theorem State.timebaseRunning_append (s : State) (r : Record) : (s.append r).timebaseRunning = s.timebaseRunning := rfl
@[simp] theorem State.frameSamples_append (s : State) (r : Record) : (s.append r).frameSamples = s.frameSamples := rfl
@[simp] theorem State.backlog_append (s : State) (r : Record) : (s.append r).backlog = s.backlog := rfl
@[simp] theorem State.mute_append (s : State) (r : Record) : (s.append r).mute = s.mute := rfl
@[simp] theorem State.link_append (s : State) (r : Record) : (s.append r).link = s.link := rfl
@[simp] theorem State.modes_append (s : State) (r : Record) : (s.append r).modes = s.modes := rfl
@[simp] theorem State.pending_append (s : State) (r : Record) : (s.append r).pending = s.pending := rfl
@[simp] theorem State.channel_append (s : State) (r : Record) (n : Str) :
    (s.append r).channel n = s.channel n := rfl
@[simp] theorem State.queue_append (s : State) (r : Record) : (s.append r).queue = s.queue.push r := rfl

@[simp] theorem State.channels_refuse (s : State) : (s.refuse).channels = s.channels := rfl
@[simp] theorem State.globals_refuse (s : State) : (s.refuse).globals = s.globals := rfl
@[simp] theorem State.lock_refuse (s : State) : (s.refuse).lock = s.lock := rfl
@[simp] theorem State.timebase_refuse (s : State) : (s.refuse).timebase = s.timebase := rfl
@[simp] theorem State.timebaseRunning_refuse (s : State) : (s.refuse).timebaseRunning = s.timebaseRunning := rfl
@[simp] theorem State.frameSamples_refuse (s : State) : (s.refuse).frameSamples = s.frameSamples := rfl
@[simp] theorem State.backlog_refuse (s : State) : (s.refuse).backlog = s.backlog := rfl
@[simp] theorem State.mute_refuse (s : State) : (s.refuse).mute = s.mute := rfl
@[simp] theorem State.link_refuse (s : State) : (s.refuse).link = s.link := rfl
@[simp] theorem State.modes_refuse (s : State) : (s.refuse).modes = s.modes := rfl
@[simp] theorem State.pending_refuse (s : State) : (s.refuse).pending = s.pending := rfl
@[simp] theorem State.channel_refuse (s : State) (n : Str) :
    (s.refuse).channel n = s.channel n := rfl
@[simp] theorem State.queue_refuse (s : State) : (s.refuse).queue = { s.queue with dropped := true } := rfl

@[simp] theorem State.channels_reserve (s : State) (k : Nat) : (s.reserve k).channels = s.channels := rfl
@[simp] theorem State.globals_reserve (s : State) (k : Nat) : (s.reserve k).globals = s.globals := rfl
@[simp] theorem State.lock_reserve (s : State) (k : Nat) : (s.reserve k).lock = s.lock := rfl
@[simp] theorem State.timebase_reserve (s : State) (k : Nat) : (s.reserve k).timebase = s.timebase := rfl
@[simp] theorem State.timebaseRunning_reserve (s : State) (k : Nat) : (s.reserve k).timebaseRunning = s.timebaseRunning := rfl
@[simp] theorem State.frameSamples_reserve (s : State) (k : Nat) : (s.reserve k).frameSamples = s.frameSamples := rfl
@[simp] theorem State.backlog_reserve (s : State) (k : Nat) : (s.reserve k).backlog = s.backlog := rfl
@[simp] theorem State.mute_reserve (s : State) (k : Nat) : (s.reserve k).mute = s.mute := rfl
@[simp] theorem State.link_reserve (s : State) (k : Nat) : (s.reserve k).link = s.link := rfl
@[simp] theorem State.modes_reserve (s : State) (k : Nat) : (s.reserve k).modes = s.modes := rfl
@[simp] theorem State.pending_reserve (s : State) (k : Nat) : (s.reserve k).pending = s.pending := rfl
@[simp] theorem State.channel_reserve (s : State) (k : Nat) (n : Str) :
    (s.reserve k).channel n = s.channel n := rfl
@[simp] theorem State.queue_reserve (s : State) (k : Nat) : (s.reserve k).queue = { s.queue with reserved := s.queue.reserved + k } := rfl

@[simp] theorem State.channels_unreserve (s : State) (k : Nat) : (s.unreserve k).channels = s.channels := rfl
@[simp] theorem State.globals_unreserve (s : State) (k : Nat) : (s.unreserve k).globals = s.globals := rfl
@[simp] theorem State.lock_unreserve (s : State) (k : Nat) : (s.unreserve k).lock = s.lock := rfl
@[simp] theorem State.timebase_unreserve (s : State) (k : Nat) : (s.unreserve k).timebase = s.timebase := rfl
@[simp] theorem State.timebaseRunning_unreserve (s : State) (k : Nat) : (s.unreserve k).timebaseRunning = s.timebaseRunning := rfl
@[simp] theorem State.frameSamples_unreserve (s : State) (k : Nat) : (s.unreserve k).frameSamples = s.frameSamples := rfl
@[simp] theorem State.backlog_unreserve (s : State) (k : Nat) : (s.unreserve k).backlog = s.backlog := rfl
@[simp] theorem State.mute_unreserve (s : State) (k : Nat) : (s.unreserve k).mute = s.mute := rfl
@[simp] theorem State.link_unreserve (s : State) (k : Nat) : (s.unreserve k).link = s.link := rfl
@[simp] theorem State.modes_unreserve (s : State) (k : Nat) : (s.unreserve k).modes = s.modes := rfl
@[simp] theorem State.pending_unreserve (s : State) (k : Nat) : (s.unreserve k).pending = s.pending := rfl
@[simp] theorem State.channel_unreserve (s : State) (k : Nat) (n : Str) :
    (s.unreserve k).channel n = s.channel n := rfl
@[simp] theorem State.queue_unreserve (s : State) (k : Nat) : (s.unreserve k).queue = { s.queue with reserved := s.queue.reserved - k } := rfl

/-! ## While RESET_N is not held low -/

theorem State.live_of_released {s : State} (h : s.modes.resetPinLow = false) (op : State → State) :
    s.live op = op s := by simp [State.live, h]

theorem State.live_of_held {s : State} (h : s.modes.resetPinLow = true) (op : State → State) :
    s.live op = s := by simp [State.live, h]

end Machine

end Sys2Proof
end

