-- ==== Sys2Proof/Laws/Glide.lean ====
section
/-! SUPPORT. What the reporter's frame end and the gate line's comparison do. -/

namespace Sys2Proof.Machine

/-- The slew step of a pitched note moves its output pitch (R110). -/
theorem Channel.steppedOutput_of_pitched {c : Channel} {out current : Nat}
    (h : c.reporter.output = some out) (k : c.voice.currentPitch = some current) :
    c.steppedOutput
      = some (if c.active.slew = 0 then out else slewStep c.active.slew current out) := by
  simp [steppedOutput, h, k]

/-- With no output pitch, or no current pitch, the slew step moves nothing. -/
theorem Channel.steppedOutput_of_absent {c : Channel}
    (h : c.reporter.output = none ∨ c.voice.currentPitch = none) :
    c.steppedOutput = c.reporter.output := by
  unfold steppedOutput
  rcases h with h | h <;> rw [h]
  cases c.reporter.output <;> rfl

/-- The slew step neither makes nor takes away an output pitch. -/
theorem Channel.steppedOutput_isSome (c : Channel) :
    c.steppedOutput.isSome = c.reporter.output.isSome := by
  unfold steppedOutput
  cases c.reporter.output <;> cases c.voice.currentPitch <;> rfl

/-- At a boundary the count returns to 0, and the reporter's event is due (R115). -/
theorem Channel.reporterFrameEnd_boundary {c : Channel} (h : c.reachesBoundary = true) :
    c.reporterFrameEnd
      = { c with reporter := { c.reporter with schedule := some 0, boundaryDue := true } } := by
  simp [reporterFrameEnd, h]

/-- At any other frame end the slew step is taken and the count rises (R110, R115). -/
theorem Channel.reporterFrameEnd_between {c : Channel} (h : c.reachesBoundary = false) :
    c.reporterFrameEnd
      = { c with reporter := ({ c.reporter with output := c.steppedOutput } : Reporter).count } := by
  simp [reporterFrameEnd, slewed, h]

/-- A drop timer at or above the retrigger drop has run out (R121). -/
theorem Channel.compareDrop_out {c : Channel} {t : Nat} (h : c.gateLine.drop = some t)
    (k : c.active.retriggerDrop ≤ t) :
    c.compareDrop = { c.gateLine with
      high := decide (c.voice.state = .sounding), drop := none, checkDue := false } := by
  simp only [compareDrop, h, if_pos k]
  cases c.voice.state <;> rfl

/-- A drop timer below it runs on, its comparison made (R121). -/
theorem Channel.compareDrop_on {c : Channel} {t : Nat} (h : c.gateLine.drop = some t)
    (k : t < c.active.retriggerDrop) : c.compareDrop = { c.gateLine with checkDue := false } := by
  simp only [compareDrop, h, if_neg (Nat.not_le.mpr k)]

/-- With no drop running there is nothing to compare. -/
theorem Channel.compareDrop_absent {c : Channel} (h : c.gateLine.drop = none) :
    c.compareDrop = { c.gateLine with checkDue := false } := by
  simp only [compareDrop, h]

/-- The comparison of a frame end is made once (R121). -/
theorem expireDrop_checkDue (n : Str) (s : State) :
    ((expireDrop n s).channel n).gateLine.checkDue = false := by
  unfold expireDrop
  split
  · simp only [State.channel_mod_self, Channel.compareDrop]
    split
    · split <;> rfl
    · rfl
  · rename_i h
    exact Bool.eq_false_of_not_eq_true h

end Sys2Proof.Machine
end

