-- ==== Sys2Proof/Laws/Handler.lean ====
section
/-! SUPPORT. What the handler does with a frame it can take (R166): the frame leaves the buffer, and the
common checks come before the command's own rule. -/

namespace Sys2Proof.Machine

/-- A step whose frame is the oldest of the buffer takes it and executes it. -/
theorem handle_of_awaits {s : State} {kind : Byte} {payload : List Byte} {rest : List Frame}
    (a : Awaits s kind payload rest) {mine : Frame → Bool} (h : mine ⟨kind, payload⟩ = true)
    (execute : Frame → State → State) :
    s.live (handle mine execute) = execute ⟨kind, payload⟩ (s.taken rest) := by
  rw [State.live_of_released a.released]
  simp only [handle, a.buffer, a.slot, a.restart, h, State.taken]
  rfl

/-- A step whose command is not the oldest frame's leaves the part as it is. -/
theorem handle_of_other {s : State} {f : Frame} {rest : List Frame}
    (b : s.link.buffer = f :: rest) {mine : Frame → Bool} (h : mine f = false)
    (execute : Frame → State → State) : s.live (handle mine execute) = s := by
  unfold State.live
  split
  · rfl
  · simp [handle, b, h]

/-- With no frame in the buffer nothing is taken. -/
theorem handle_of_empty {s : State} (b : s.link.buffer = []) (mine : Frame → Bool)
    (execute : Frame → State → State) : s.live (handle mine execute) = s := by
  unfold State.live
  split
  · rfl
  · simp [handle, b]

/-- While a reply waits in the slot or a restart is due, nothing is taken (R166, R175). -/
theorem handle_of_busy {s : State} (b : s.link.slot ≠ none ∨ s.modes.restart ≠ .none)
    (mine : Frame → Bool) (execute : Frame → State → State) : s.live (handle mine execute) = s := by
  have h : (s.link.slot.isNone && s.modes.restart == .none) = false := by
    rcases b with b | b
    · cases k : s.link.slot with
      | none => exact absurd k b
      | some => rfl
    · simp [b]
  unfold State.live handle
  split
  · rfl
  · split
    · rfl
    · simp [h]

theorem command_badLength {lengths : List Nat} {f : Frame} (h : f.payload.length + 1 ∉ lengths)
    (inStart : Bool) (rule : Byte → List Byte → State → State) (s : State) :
    command lengths inStart rule f s = reply f.kind .badLength [] s := by
  simp [command, h]

theorem command_wrongMode {lengths : List Nat} {f : Frame} (h : f.payload.length + 1 ∈ lengths)
    {s : State} (m : s.modes.mode = .start) (rule : Byte → List Byte → State → State) :
    command lengths false rule f s = reply f.kind .wrongMode [] s := by
  simp [command, h, m]

theorem command_rule {lengths : List Nat} {f : Frame} (h : f.payload.length + 1 ∈ lengths)
    {inStart : Bool} {s : State} (m : s.modes.mode = .start → inStart = true)
    (rule : Byte → List Byte → State → State) :
    command lengths inStart rule f s = rule f.kind f.payload s := by
  by_cases q : s.modes.mode = .start
  · simp [command, h, m q]
  · simp [command, h, q]

/-- A reply changes the slot alone. -/
theorem reply_fields (kind : Byte) (outcome : ReplyOutcome) (data : List Byte) (s : State) :
    (reply kind outcome data s).channels = s.channels
      ∧ (reply kind outcome data s).globals = s.globals
      ∧ (reply kind outcome data s).lock = s.lock
      ∧ (reply kind outcome data s).queue = s.queue
      ∧ (reply kind outcome data s).backlog = s.backlog
      ∧ (reply kind outcome data s).mute = s.mute
      ∧ (reply kind outcome data s).modes = s.modes
      ∧ (reply kind outcome data s).pending = s.pending := ⟨rfl, rfl, rfl, rfl, rfl, rfl, rfl, rfl⟩

@[simp] theorem reply_channel (kind : Byte) (outcome : ReplyOutcome) (data : List Byte) (s : State)
    (n : Str) : (reply kind outcome data s).channel n = s.channel n := rfl

end Sys2Proof.Machine
end

