-- ==== Sys2Proof/Laws/Judgement.lean ====
section
/-! SUPPORT. Laws: the surge test read as the spec writes it, and when a per-frame step waits for the judgement. -/

namespace Sys2Proof.Machine

/-- The lowest of some levels is the first of them or lies among the rest. -/
theorem foldl_min_mem (x : Nat) (rest : List Nat) : rest.foldl min x ∈ x :: rest := by
  induction rest generalizing x with
  | nil => exact List.mem_cons_self
  | cons y rest ih =>
    rcases List.mem_cons.mp (ih (min x y)) with h | h
    · rw [List.foldl_cons, h]
      rcases Nat.le_total x y with k | k
      · rw [Nat.min_eq_left k]; exact List.mem_cons_self
      · rw [Nat.min_eq_right k]; exact List.mem_cons_of_mem _ List.mem_cons_self
    · exact List.mem_cons_of_mem _ (List.mem_cons_of_mem _ h)

/-- The lowest of some levels is at most each of them. -/
theorem foldl_min_le {x : Nat} {rest : List Nat} {y : Nat} (h : y ∈ x :: rest) :
    rest.foldl min x ≤ y := by
  induction rest generalizing x y with
  | nil => exact Nat.le_of_eq (List.mem_singleton.mp h).symm
  | cons z rest ih =>
    have first : (z :: rest).foldl min x ≤ min x z := ih List.mem_cons_self
    rcases List.mem_cons.mp h with k | h
    · exact k ▸ first.trans (Nat.min_le_left ..)
    · rcases List.mem_cons.mp h with k | h
      · exact k ▸ first.trans (Nat.min_le_right ..)
      · exact ih (List.mem_cons_of_mem _ h)

/-- The floor (R46): over a window that is filled, the floor times a ratio is at most a bound exactly when
one of the window's levels times it is. -/
theorem floorOf_mul_le {w : Nat} {levels : List Nat} (hw : 1 ≤ w) (h : w ≤ levels.length)
    (ratio bound : Nat) :
    floorOf w levels * ratio ≤ bound
      ↔ ∃ level ∈ levels.drop (levels.length - w), level * ratio ≤ bound := by
  unfold floorOf
  cases k : levels.drop (levels.length - w) with
  | nil =>
    have := congrArg List.length k
    rw [List.length_drop, List.length_nil] at this
    omega
  | cons x rest =>
    exact ⟨fun l => ⟨_, foldl_min_mem x rest, l⟩,
      fun ⟨_, m, l⟩ => (Nat.mul_le_mul_right _ (foldl_min_le m)).trans l⟩

/-- A step that has to wait for the judgement of its frame end changes nothing where its test passes (R105,
log 27). -/
theorem bleedStep_of_waits {n : Str} {s : State} (h : (s.channel n).stepWaits = true)
    (pass : bleedPasses s n = true) : bleedStep n s = s := by
  unfold bleedStep
  cases (s.channel n).stepTimer <;> simp [h, pass]

/-- Once the judgement of a frame end is made, no step waits for it. -/
theorem stepWaits_of_judged {c : Channel} (h : c.detector.judgementDue = false) :
    c.stepWaits = false := by
  simp [Channel.stepWaits, Channel.arrivalMayCome, h]

end Sys2Proof.Machine
end

