-- ==== Sys2Proof/Laws/Reach.lean ====
section
/-! SUPPORT. How far each shared operation reaches: what of the part it leaves as it stands. One lemma
for each operation, composed by transitivity. -/

namespace Sys2Proof.Machine

theorem Outside.refl (s : State) : Outside s s := ⟨rfl, rfl, rfl, rfl, rfl, rfl, rfl, rfl, rfl⟩

theorem Outside.trans {s t u : State} (h : Outside s t) (k : Outside t u) : Outside s u :=
  ⟨k.globals.trans h.globals, k.lock.trans h.lock, k.timebase.trans h.timebase,
    k.timebaseRunning.trans h.timebaseRunning, k.frameSamples.trans h.frameSamples,
    k.mute.trans h.mute, k.link.trans h.link, k.modes.trans h.modes, k.pending.trans h.pending⟩

theorem QueueOnly.refl (s : State) : QueueOnly s s := ⟨.refl s, rfl⟩

theorem QueueOnly.trans {s t u : State} (h : QueueOnly s t) (k : QueueOnly t u) : QueueOnly s u :=
  ⟨h.outside.trans k.outside, k.channels.trans h.channels⟩

theorem QueueOnly.channel {s t : State} (h : QueueOnly s t) (n : Str) :
    t.channel n = s.channel n := by rw [← State.get_channels, h.channels, State.get_channels]

theorem OnlyString.refl (n : Str) (s : State) : OnlyString n s s := ⟨.refl s, fun _ _ => rfl⟩

theorem OnlyString.trans {n : Str} {s t u : State} (h : OnlyString n s t) (k : OnlyString n t u) :
    OnlyString n s u :=
  ⟨h.outside.trans k.outside, fun m hm => (k.others m hm).trans (h.others m hm)⟩

theorem QueueOnly.onlyString {s t : State} (h : QueueOnly s t) (n : Str) : OnlyString n s t :=
  ⟨h.outside, fun m _ => h.channel m⟩

/-! ## The queue -/

theorem append_queueOnly (s : State) (r : Record) : QueueOnly s (s.append r) :=
  ⟨⟨rfl, rfl, rfl, rfl, rfl, rfl, rfl, rfl, rfl⟩, rfl⟩

theorem refuse_queueOnly (s : State) : QueueOnly s s.refuse :=
  ⟨⟨rfl, rfl, rfl, rfl, rfl, rfl, rfl, rfl, rfl⟩, rfl⟩

theorem reserve_queueOnly (s : State) (k : Nat) : QueueOnly s (s.reserve k) :=
  ⟨⟨rfl, rfl, rfl, rfl, rfl, rfl, rfl, rfl, rfl⟩, rfl⟩

theorem unreserve_queueOnly (s : State) (k : Nat) : QueueOnly s (s.unreserve k) :=
  ⟨⟨rfl, rfl, rfl, rfl, rfl, rfl, rfl, rfl, rfl⟩, rfl⟩

theorem activateBacklog_queueOnly (s : State) : QueueOnly s (activateBacklog s) := by
  unfold activateBacklog
  dsimp only
  split
  · exact ⟨⟨rfl, rfl, rfl, rfl, rfl, rfl, rfl, rfl, rfl⟩, rfl⟩
  · split <;> exact ⟨⟨rfl, rfl, rfl, rfl, rfl, rfl, rfl, rfl, rfl⟩, rfl⟩

theorem deactivateBacklog_queueOnly (s : State) : QueueOnly s (deactivateBacklog s) := by
  unfold deactivateBacklog
  dsimp only
  split
  · exact ⟨⟨rfl, rfl, rfl, rfl, rfl, rfl, rfl, rfl, rfl⟩, rfl⟩
  · split
    · split
      · refine QueueOnly.trans ?_ (activateBacklog_queueOnly _)
        exact ⟨⟨rfl, rfl, rfl, rfl, rfl, rfl, rfl, rfl, rfl⟩, rfl⟩
      · exact ⟨⟨rfl, rfl, rfl, rfl, rfl, rfl, rfl, rfl, rfl⟩, rfl⟩
    · exact ⟨⟨rfl, rfl, rfl, rfl, rfl, rfl, rfl, rfl, rfl⟩, rfl⟩

theorem updateBacklog_queueOnly (s : State) : QueueOnly s (updateBacklog s) := by
  unfold updateBacklog
  split <;> split <;>
    first
      | exact .refl s
      | exact activateBacklog_queueOnly s
      | exact deactivateBacklog_queueOnly s

theorem offerPlain_queueOnly (r : Record) (s : State) : QueueOnly s (offerPlain r s) := by
  unfold offerPlain
  split
  · exact (append_queueOnly s r).trans (updateBacklog_queueOnly _)
  · exact refuse_queueOnly s

/-! ## One string -/

theorem mod_onlyString (s : State) (n : Str) (f : Channel → Channel) : OnlyString n s (s.mod n f) :=
  ⟨⟨rfl, rfl, rfl, rfl, rfl, rfl, rfl, rfl, rfl⟩, fun _ h => s.channel_mod_ne f h⟩

theorem raiseCondition_onlyString (k : StringKind) (n : Str) (s : State) :
    OnlyString n s (raiseCondition k n s) := by
  unfold raiseCondition
  dsimp only
  split
  · exact .refl n s
  · split
    · exact mod_onlyString ..
    · split
      · exact ((mod_onlyString ..).trans ((offerPlain_queueOnly ..).onlyString n)).trans
          (mod_onlyString ..)
      · exact (mod_onlyString ..).trans ((refuse_queueOnly _).onlyString n)

theorem clearActive_onlyString (k : StringKind) (n : Str) (s : State) :
    OnlyString n s (clearActive k n s) := mod_onlyString ..

theorem reportEnd_onlyString (k : StringKind) (n : Str) (s : State) :
    OnlyString n s (reportEnd k n s) := by
  unfold reportEnd
  dsimp only
  split
  · split
    · exact (mod_onlyString ..).trans ((offerPlain_queueOnly ..).onlyString n)
    · exact mod_onlyString ..
  · exact .refl n s

theorem offerNoteOn_onlyString (n : Str) (base velocity : Nat) (offset : Int) (flag : NoteFlag)
    (s : State) : OnlyString n s (offerNoteOn n base velocity offset flag s) := by
  unfold offerNoteOn
  extract_lets serial t room
  split
  · exact ((((mod_onlyString ..).trans (mod_onlyString ..)).trans
      ((reserve_queueOnly ..).onlyString n)).trans ((append_queueOnly ..).onlyString n)).trans
      ((updateBacklog_queueOnly _).onlyString n)
  · exact (mod_onlyString ..).trans ((refuse_queueOnly _).onlyString n)

theorem offerNoteOff_onlyString (n : Str) (reason : OffReason) (s : State) :
    OnlyString n s (offerNoteOff n reason s) := by
  unfold offerNoteOff
  dsimp only
  split
  · exact (((mod_onlyString ..).trans ((unreserve_queueOnly ..).onlyString n)).trans
      ((append_queueOnly ..).onlyString n)).trans ((updateBacklog_queueOnly _).onlyString n)
  · exact .refl n s

theorem offerPitchFix_onlyString (n : Str) (base : Nat) (offset : Int) (s : State) :
    OnlyString n s (offerPitchFix n base offset s) := by
  unfold offerPitchFix
  dsimp only
  split
  · exact (((mod_onlyString ..).trans ((unreserve_queueOnly ..).onlyString n)).trans
      ((append_queueOnly ..).onlyString n)).trans ((updateBacklog_queueOnly _).onlyString n)
  · exact .refl n s

theorem releaseFix_onlyString (n : Str) (s : State) : OnlyString n s (releaseFix n s) := by
  unfold releaseFix
  split
  · exact ((mod_onlyString ..).trans ((unreserve_queueOnly ..).onlyString n)).trans
      ((updateBacklog_queueOnly _).onlyString n)
  · exact .refl n s

theorem offerGlide_onlyString (n : Str) (offset : Int) (s : State) :
    OnlyString n s (offerGlide n offset s) := by
  unfold offerGlide
  dsimp only
  split
  · exact ⟨⟨rfl, rfl, rfl, rfl, rfl, rfl, rfl, rfl, rfl⟩, fun m hm => by
      rw [State.channel_mk, State.get_channels]
      exact s.channel_mod_ne _ hm⟩
  · exact ((mod_onlyString ..).trans ((append_queueOnly ..).onlyString n)).trans
      ((updateBacklog_queueOnly _).onlyString n)
  · exact (refuse_queueOnly s).onlyString n

theorem considerReport_onlyString (n : Str) (offset : Int) (s : State) :
    OnlyString n s (considerReport n offset s) := by
  unfold considerReport
  dsimp only
  split
  · exact offerGlide_onlyString ..
  · exact .refl n s

theorem considerOutput_onlyString (n : Str) (s : State) : OnlyString n s (considerOutput n s) := by
  unfold considerOutput
  split
  · exact considerReport_onlyString ..
  · exact .refl n s

theorem reportOnEstimate_onlyString (n : Str) (s : State) :
    OnlyString n s (reportOnEstimate n s) := by
  unfold reportOnEstimate
  split
  · exact considerOutput_onlyString n s
  · exact .refl n s

theorem takeBoundary_onlyString (n : Str) (s : State) : OnlyString n s (takeBoundary n s) := by
  unfold takeBoundary
  split
  · exact (mod_onlyString ..).trans (considerOutput_onlyString ..)
  · exact .refl n s

theorem expireDrop_onlyString (n : Str) (s : State) : OnlyString n s (expireDrop n s) := by
  unfold expireDrop
  split
  · exact mod_onlyString ..
  · exact .refl n s

theorem commitProfile_onlyString (n : Str) (s : State) : OnlyString n s (commitProfile n s) :=
  mod_onlyString ..

theorem enterQuiet_onlyString (n : Str) (s : State) : OnlyString n s (enterQuiet n s) := by
  unfold enterQuiet
  dsimp only
  split
  · exact (mod_onlyString ..).trans (commitProfile_onlyString ..)
  · exact mod_onlyString ..

theorem lowerLine_onlyString (n : Str) (s : State) : OnlyString n s (lowerLine n s) := by
  unfold lowerLine
  exact mod_onlyString ..

theorem raiseLine_onlyString (n : Str) (s : State) : OnlyString n s (raiseLine n s) := by
  unfold raiseLine
  exact mod_onlyString ..

theorem endNote_onlyString (n : Str) (reason : OffReason) (s : State) :
    OnlyString n s (endNote n reason s) :=
  (offerNoteOff_onlyString ..).trans (lowerLine_onlyString ..)

theorem beginNote_onlyString (n : Str) (base : Nat) (pitch : Option Nat) (offset : Int)
    (kind : StartKind) (flag : NoteFlag) (velocity : Nat) (s : State) :
    OnlyString n s (beginNote n base pitch offset kind flag velocity s) :=
  (offerNoteOn_onlyString ..).trans (mod_onlyString ..)

theorem beginPitched_onlyString (n : Str) (pitch : Nat) (kind : StartKind) (velocity : Nat)
    (s : State) : OnlyString n s (beginPitched n pitch kind velocity s) :=
  (beginNote_onlyString ..).trans (mod_onlyString ..)

theorem beginUnpitched_onlyString (n : Str) (velocity : Nat) (s : State) :
    OnlyString n s (beginUnpitched n velocity s) :=
  (beginNote_onlyString ..).trans (mod_onlyString ..)

theorem tryBegin_onlyString (n : Str) (s : State) : OnlyString n s (tryBegin n s) := by
  unfold tryBegin
  dsimp only
  split
  · split
    · exact beginPitched_onlyString ..
    · split
      · exact beginUnpitched_onlyString ..
      · exact .refl n s
    · exact .refl n s
  · exact .refl n s

theorem voiceCompletion_onlyString (n : Str) (value : Nat) (s : State) :
    OnlyString n s (voiceCompletion n value s) := by
  unfold voiceCompletion
  dsimp only
  split
  · exact (mod_onlyString ..).trans (tryBegin_onlyString ..)
  · exact .refl n s

theorem learnEstimate_onlyString (n : Str) (e : Estimate) (s : State) :
    OnlyString n s (learnEstimate n e s) := mod_onlyString ..

theorem estimateAcquiring_onlyString (n : Str) (e : Estimate) (s : State) :
    OnlyString n s (estimateAcquiring n e s) :=
  (learnEstimate_onlyString n e s).trans (tryBegin_onlyString ..)

theorem settleStart_onlyString (n : Str) (pitch : Nat) (s : State) :
    OnlyString n s (settleStart n pitch s) := by
  unfold settleStart
  dsimp only
  split
  · exact ((mod_onlyString ..).trans (mod_onlyString ..)).trans (offerPitchFix_onlyString ..)
  · exact ((mod_onlyString ..).trans (releaseFix_onlyString ..)).trans
      (reportOnEstimate_onlyString ..)

theorem nextNote_onlyString (n : Str) (pitch : Nat) (reason : OffReason) (flag : NoteFlag)
    (s : State) : OnlyString n s (nextNote n pitch reason flag s) :=
  (offerNoteOff_onlyString ..).trans (beginNote_onlyString ..)

theorem bendTest_onlyString (n : Str) (pitch : Nat) (s : State) :
    OnlyString n s (bendTest n pitch s) := by
  unfold bendTest
  dsimp only
  split
  · exact (considerReport_onlyString ..).trans (nextNote_onlyString ..)
  · exact reportOnEstimate_onlyString ..

theorem confirmCandidate_onlyString (n : Str) (pitch : Nat) (s : State) :
    OnlyString n s (confirmCandidate n pitch s) := by
  unfold confirmCandidate
  dsimp only
  split
  · split
    · exact (mod_onlyString ..).trans (bendTest_onlyString ..)
    · exact (mod_onlyString ..).trans (reportOnEstimate_onlyString ..)
  · exact nextNote_onlyString ..

theorem candidateTest_onlyString (n : Str) (pitch : Nat) (s : State) :
    OnlyString n s (candidateTest n pitch s) := by
  unfold candidateTest
  dsimp only
  split
  · exact (mod_onlyString ..).trans (confirmCandidate_onlyString ..)
  · exact mod_onlyString ..

theorem readEstimate_onlyString (n : Str) (pitch : Nat) (s : State) :
    OnlyString n s (readEstimate n pitch s) := by
  unfold readEstimate
  dsimp only
  split
  · split
    · exact ((mod_onlyString ..).trans (mod_onlyString ..)).trans (reportOnEstimate_onlyString ..)
    · exact (mod_onlyString ..).trans (candidateTest_onlyString ..)
  · exact ((mod_onlyString ..).trans (mod_onlyString ..)).trans (bendTest_onlyString ..)
  · split
    · exact ((mod_onlyString ..).trans (mod_onlyString ..)).trans (bendTest_onlyString ..)
    · exact (mod_onlyString ..).trans (candidateTest_onlyString ..)

theorem voiceEstimate_onlyString (n : Str) (e : Estimate) (s : State) :
    OnlyString n s (voiceEstimate n e s) := by
  unfold voiceEstimate estimateSounding
  split
  · exact mod_onlyString ..
  · exact estimateAcquiring_onlyString ..
  · split
    · exact .refl n s
    · split
      · exact readEstimate_onlyString ..
      · exact settleStart_onlyString ..
  all_goals exact .refl n s

theorem voiceRelease_onlyString (n : Str) (s : State) : OnlyString n s (voiceRelease n s) := by
  unfold voiceRelease
  split
  · exact (endNote_onlyString ..).trans (enterQuiet_onlyString ..)
  all_goals first | exact enterQuiet_onlyString n s | exact .refl n s

theorem expireAcquisition_onlyString (n : Str) (s : State) :
    OnlyString n s (expireAcquisition n s) := by
  unfold expireAcquisition
  dsimp only
  split
  · exact (mod_onlyString ..).trans (tryBegin_onlyString ..)
  · exact .refl n s

theorem expireStall_onlyString (n : Str) (s : State) : OnlyString n s (expireStall n s) := by
  unfold expireStall
  dsimp only
  split
  · exact mod_onlyString ..
  · exact .refl n s

theorem expireLost_onlyString (n : Str) (s : State) : OnlyString n s (expireLost n s) := by
  unfold expireLost
  dsimp only
  split
  · exact (endNote_onlyString ..).trans (mod_onlyString ..)
  · exact .refl n s

theorem passSuspicion_onlyString (n : Str) (s : State) : OnlyString n s (passSuspicion n s) := by
  unfold passSuspicion
  dsimp only
  split
  · exact mod_onlyString ..
  · exact (mod_onlyString ..).trans (estimateAcquiring_onlyString ..)

theorem bleedStep_onlyString (n : Str) (s : State) : OnlyString n s (bleedStep n s) := by
  unfold bleedStep
  split
  · exact .refl n s
  · split
    · split
      · exact .refl n s
      · exact passSuspicion_onlyString n s
    · split <;> exact mod_onlyString ..

theorem restartRing_onlyString (n : Str) (extension : Nat) (s : State) :
    OnlyString n s (restartRing n extension s) := mod_onlyString ..

theorem voiceOnset_onlyString (n : Str) (wakeMark : Bool) (s : State) :
    OnlyString n s (voiceOnset n wakeMark s) := by
  unfold voiceOnset
  split
  · exact (restartRing_onlyString ..).trans (mod_onlyString ..)
  · exact .refl n s

theorem voiceRestrike_onlyString (n : Str) (prior : Nat) (s : State) :
    OnlyString n s (voiceRestrike n prior s) := by
  unfold voiceRestrike
  dsimp only
  split
  · exact (restartRing_onlyString ..).trans (mod_onlyString ..)
  · split
    · exact (restartRing_onlyString ..).trans (mod_onlyString ..)
    · exact mod_onlyString ..
  · split
    · exact ((endNote_onlyString ..).trans (restartRing_onlyString ..)).trans (mod_onlyString ..)
    · exact .refl n s
  · exact (restartRing_onlyString ..).trans (mod_onlyString ..)
  all_goals exact .refl n s

theorem attackGate_onlyString (n : Str) (reference : Nat) (arrive : State → State) (s : State)
    (h : ∀ t, OnlyString n t (arrive t)) : OnlyString n s (attackGate n reference arrive s) :=
  (mod_onlyString ..).trans (h _)

theorem releaseGate_onlyString (n : Str) (s : State) : OnlyString n s (releaseGate n s) :=
  (mod_onlyString ..).trans (voiceRelease_onlyString ..)

theorem modDetector_onlyString (n : Str) (f : Channel → Detector) (s : State) :
    OnlyString n s (modDetector n f s) := by
  unfold modDetector
  exact mod_onlyString ..

theorem finishJudgement_onlyString (n : Str) (s : State) :
    OnlyString n s (finishJudgement n s) := modDetector_onlyString ..

theorem actOn_onlyString (n : Str) (v : Verdict) (s : State) : OnlyString n s (actOn n v s) := by
  cases v <;> unfold actOn <;> dsimp only
  case stays => exact finishJudgement_onlyString n s
  case clearsWait => exact modDetector_onlyString ..
  case onset => exact attackGate_onlyString n _ _ s fun t => voiceOnset_onlyString n false t
  case entersDip => exact (modDetector_onlyString ..).trans (finishJudgement_onlyString ..)
  case flutter => exact (modDetector_onlyString ..).trans (finishJudgement_onlyString ..)
  case surge => exact attackGate_onlyString n _ _ s fun t => voiceRestrike_onlyString n _ t
  case restrike => exact attackGate_onlyString n _ _ s fun t => voiceRestrike_onlyString n _ t
  case release => exact releaseGate_onlyString n s
  case releaseOnset =>
    split
    · exact (releaseGate_onlyString n s).trans
        (attackGate_onlyString n _ _ _ fun t => voiceOnset_onlyString n false t)
    · exact releaseGate_onlyString n s

theorem judge_onlyString (n : Str) (s : State) : OnlyString n s (judge n s) := by
  unfold judge
  dsimp only
  split
  · exact (mod_onlyString ..).trans (actOn_onlyString ..)
  · exact .refl n s

theorem takeCompletion_onlyString (n : Str) (s : State) : OnlyString n s (takeCompletion n s) := by
  unfold takeCompletion
  split
  · exact (mod_onlyString ..).trans (voiceCompletion_onlyString ..)
  · exact .refl n s

theorem takeCompletion_of_none {n : Str} {s : State}
    (h : (s.channel n).detector.completion = none) : takeCompletion n s = s := by
  simp [takeCompletion, h]

theorem endClip_onlyString (n : Str) (s : State) : OnlyString n s (endClip n s) := by
  unfold endClip
  dsimp only
  split
  · exact ((mod_onlyString ..).trans (clearActive_onlyString ..)).trans (reportEnd_onlyString ..)
  · exact .refl n s

theorem takeCrossing_onlyString (n : Str) (s : State) : OnlyString n s (takeCrossing n s) := by
  unfold takeCrossing
  split
  · exact mod_onlyString ..
  · exact .refl n s

theorem takeEstimate_onlyString (n : Str) (s : State) : OnlyString n s (takeEstimate n s) := by
  unfold takeEstimate
  split
  · exact (mod_onlyString ..).trans (voiceEstimate_onlyString ..)
  · exact .refl n s

theorem addCause_onlyString (cause : MuteCause) (n : Str) (s : State) :
    OnlyString n s (addCause cause n s) := by
  unfold addCause
  dsimp only
  split
  · exact mod_onlyString ..
  · split
    · exact (endNote_onlyString ..).trans (mod_onlyString ..)
    · exact mod_onlyString ..

theorem removeCause_onlyString (cause : MuteCause) (n : Str) (s : State) :
    OnlyString n s (removeCause cause n s) := by
  unfold removeCause
  dsimp only
  split
  · split
    · exact mod_onlyString ..
    · split
      · exact (mod_onlyString ..).trans (enterQuiet_onlyString ..)
      · exact (mod_onlyString ..).trans (mod_onlyString ..)
  · exact .refl n s

theorem openBecomesActive_onlyString (n : Str) (s : State) :
    OnlyString n s (openBecomesActive n s) := by
  unfold openBecomesActive
  dsimp only
  split
  · exact ((mod_onlyString ..).trans (raiseCondition_onlyString ..)).trans (addCause_onlyString ..)
  · exact .refl n s

theorem openBecomesInactive_onlyString (n : Str) (s : State) :
    OnlyString n s (openBecomesInactive n s) := by
  unfold openBecomesInactive
  dsimp only
  split
  · exact (((mod_onlyString ..).trans (clearActive_onlyString ..)).trans
      (removeCause_onlyString ..)).trans (reportEnd_onlyString ..)
  · exact .refl n s

theorem dozeVoice_onlyString (n : Str) (s : State) : OnlyString n s (dozeVoice n s) := by
  unfold dozeVoice
  split
  · exact (offerNoteOff_onlyString ..).trans (enterQuiet_onlyString ..)
  all_goals first | exact enterQuiet_onlyString n s | exact .refl n s

theorem flushVoice_onlyString (n : Str) (s : State) : OnlyString n s (flushVoice n s) := by
  have settle (t : State) : OnlyString n t
      (if (t.channel n).detector.gate = .closed then enterQuiet n t
       else t.mod n (.entering .silent)) := by
    split
    · exact enterQuiet_onlyString n t
    · exact mod_onlyString ..
  unfold flushVoice
  dsimp only
  split
  · exact (endNote_onlyString ..).trans (settle _)
  · exact settle s
  · exact settle s
  all_goals exact .refl n s

theorem forceCommit_onlyString (n : Str) (s : State) : OnlyString n s (forceCommit n s) := by
  unfold forceCommit
  dsimp only
  refine (takeCompletion_onlyString n s).trans (OnlyString.trans ?_ (modDetector_onlyString ..))
  split
  · exact (endNote_onlyString ..).trans (enterQuiet_onlyString ..)
  all_goals first | exact enterQuiet_onlyString .. | exact commitProfile_onlyString ..

/-! ## All strings in an order -/

/-- An operation that leaves the shared registers alone leaves them alone over a list of strings. -/
theorem forStrings_outside (op : Str → State → State) (h : ∀ n t, Outside t (op n t)) :
    ∀ (l : List Str) (s : State), Outside s (forStrings op l s)
  | [], s => .refl s
  | n :: rest, s => (h n s).trans (forStrings_outside op h rest (op n s))

/-- A property that the operation keeps holds at the end of the list. -/
theorem forStrings_induct {P : State → Prop} (op : Str → State → State)
    (h : ∀ n t, P t → P (op n t)) : ∀ (l : List Str) (s : State), P s → P (forStrings op l s)
  | [], _, hs => hs
  | n :: rest, s, hs => forStrings_induct op h rest (op n s) (h n s hs)

end Sys2Proof.Machine
end

