-- ==== Sys2Proof/Laws/Queue.lean ====
section
/-! SUPPORT. What the shared operations of the queue do: the comparison with the high-water setting, an
offered CONDITION or NOTICE, and the note records with their reservations. -/

namespace Sys2Proof.Machine

/-! ## Records joined -/

theorem Joined.of_queue_eq {s t : State} (h : t.queue.records = s.queue.records)
    (g : t.queue.gateOpen = s.queue.gateOpen) : Joined s t [] :=
  ⟨⟨[], by simp [h], rfl⟩, g⟩

theorem Joined.congr_left {s s' t : State} {rs : List Record}
    (h : s'.queue.records = s.queue.records) (g : s'.queue.gateOpen = s.queue.gateOpen)
    (j : Joined s' t rs) : Joined s t rs := by
  obtain ⟨⟨extra, e, b⟩, k⟩ := j
  exact ⟨⟨extra, by rw [e, h], b⟩, k.trans g⟩

theorem Joined.congr_right {s t t' : State} {rs : List Record}
    (h : t'.queue.records = t.queue.records) (g : t'.queue.gateOpen = t.queue.gateOpen)
    (j : Joined s t rs) : Joined s t' rs := by
  obtain ⟨⟨extra, e, b⟩, k⟩ := j
  exact ⟨⟨extra, by rw [h, e], b⟩, g.trans k⟩

/-- One record pushed has joined. -/
theorem Joined.append (s : State) (r : Record) : Joined s (s.append r) [r] :=
  ⟨⟨[], by simp [Queue.push], rfl⟩, rfl⟩

/-- Behind records that have joined, only reports of BACKLOG were added. -/
theorem Joined.extend {s t u : State} {rs : List Record} (j : Joined s t rs) (k : Joined t u []) :
    Joined s u rs := by
  obtain ⟨⟨e, he, be⟩, g⟩ := j
  obtain ⟨⟨f, hf, bf⟩, h⟩ := k
  exact ⟨⟨e ++ f, by rw [hf, he]; simp [List.append_assoc], by simp_all⟩, h.trans g⟩

/-- What is no report of BACKLOG, in the order it joined. -/
theorem Joined.kept {s t : State} {rs : List Record} (j : Joined s t rs)
    (h : rs.all (fun r => !r.isBacklog) = true) :
    t.queue.records.filter (fun r => !r.isBacklog)
      = s.queue.records.filter (fun r => !r.isBacklog) ++ rs := by
  obtain ⟨⟨e, he, be⟩, -⟩ := j
  have h1 : e.filter (fun r => !r.isBacklog) = [] := by
    simp only [List.filter_eq_nil_iff]; intro r hr
    have := List.all_eq_true.mp be r hr; simp [this]
  have h2 : rs.filter (fun r => !r.isBacklog) = rs := by
    simp only [List.filter_eq_self]; intro r hr; exact List.all_eq_true.mp h r hr
  rw [he, List.filter_append, List.filter_append, h1, h2, List.append_nil]

/-! ## The comparison with the high-water setting (R136, R153 to R155) -/

/-- The comparison changes nothing where BACKLOG already says what it finds. -/
theorem updateBacklog_of_law {s : State} (h : BacklogLaw s) : updateBacklog s = s := by
  unfold BacklogLaw at h
  unfold updateBacklog
  split <;> split <;> simp_all

theorem activateBacklog_joined (s : State) : Joined s (activateBacklog s) [] := by
  unfold activateBacklog
  dsimp only
  split
  · exact .of_queue_eq rfl rfl
  · split
    · exact ⟨⟨[.condition .backlog true], by simp [Queue.push], rfl⟩, rfl⟩
    · exact .of_queue_eq rfl rfl

theorem deactivateBacklog_joined (s : State) : Joined s (deactivateBacklog s) [] := by
  unfold deactivateBacklog
  dsimp only
  split
  · exact .of_queue_eq rfl rfl
  · split
    · have h : Joined s (({ s with backlog := { s.backlog with
          active := false, endMark := false } } : State).append (.condition .backlog false)) [] :=
        ⟨⟨[.condition .backlog false], by simp [Queue.push], rfl⟩, rfl⟩
      split
      · exact h.extend (activateBacklog_joined _)
      · exact h
    · exact .of_queue_eq rfl rfl

/-- The comparison adds nothing but reports of BACKLOG. -/
theorem updateBacklog_joined (s : State) : Joined s (updateBacklog s) [] := by
  unfold updateBacklog
  split <;> split
  · exact .of_queue_eq rfl rfl
  · exact activateBacklog_joined s
  · exact deactivateBacklog_joined s
  · exact .of_queue_eq rfl rfl

theorem activateBacklog_account (s : State) :
    (activateBacklog s).queue.reserved = s.queue.reserved
      ∧ (activateBacklog s).queue.gateOpen = s.queue.gateOpen
      ∧ (s.queue.dropped = true → (activateBacklog s).queue.dropped = true)
      ∧ (activateBacklog s).backlog.active = true
      ∧ (s.backlogNow = true → (activateBacklog s).backlogNow = true) := by
  unfold activateBacklog
  dsimp only
  split
  · exact ⟨rfl, rfl, id, rfl, id⟩
  · split
    · refine ⟨rfl, rfl, id, rfl, fun h => ?_⟩
      have h' : s.globals.highWater ≤ s.queue.records.length + s.queue.reserved :=
        of_decide_eq_true h
      refine decide_eq_true ?_
      change s.globals.highWater ≤ (s.queue.records ++ [_]).length + s.queue.reserved
      rw [List.length_append]
      omega
    · exact ⟨rfl, rfl, fun _ => rfl, rfl, id⟩

theorem deactivateBacklog_account (s : State) :
    (deactivateBacklog s).queue.reserved = s.queue.reserved
      ∧ (deactivateBacklog s).queue.gateOpen = s.queue.gateOpen
      ∧ (s.queue.dropped = true → (deactivateBacklog s).queue.dropped = true)
      ∧ (s.backlogNow = false →
        (deactivateBacklog s).backlog.active = (deactivateBacklog s).backlogNow) := by
  unfold deactivateBacklog
  dsimp only
  split
  · exact ⟨rfl, rfl, id, fun h => h.symm⟩
  · split
    · split
      · next h =>
        obtain ⟨a, b, c, d, e⟩ := activateBacklog_account
          (({ s with backlog := { s.backlog with active := false, endMark := false } } : State).append
            (.condition .backlog false))
        exact ⟨a, b, c, fun _ => by rw [d, e h]⟩
      · next h => exact ⟨rfl, rfl, id, fun _ => by simpa using h⟩
    · exact ⟨rfl, rfl, fun _ => rfl, fun h => h.symm⟩

/-- What the comparison keeps and what it establishes (R136): BACKLOG is active exactly while the
commitment is at or above the high-water setting. -/
theorem updateBacklog_account (s : State) :
    (updateBacklog s).queue.reserved = s.queue.reserved
      ∧ (updateBacklog s).queue.gateOpen = s.queue.gateOpen
      ∧ (s.queue.dropped = true → (updateBacklog s).queue.dropped = true)
      ∧ BacklogLaw (updateBacklog s) := by
  unfold updateBacklog BacklogLaw
  by_cases h : s.backlogNow = true
  · rw [if_pos h]
    by_cases k : s.backlog.active = true
    · rw [if_pos k]; exact ⟨rfl, rfl, id, by rw [k, h]⟩
    · rw [if_neg k]
      obtain ⟨a, b, c, d, e⟩ := activateBacklog_account s
      exact ⟨a, b, c, by rw [d, e h]⟩
  · rw [if_neg h]
    have h' : s.backlogNow = false := by simpa using h
    by_cases k : s.backlog.active = true
    · rw [if_pos k]
      obtain ⟨a, b, c, d⟩ := deactivateBacklog_account s
      exact ⟨a, b, c, d h'⟩
    · rw [if_neg k]; exact ⟨rfl, rfl, id, by rw [h']; simpa using k⟩

theorem updateBacklog_channels (s : State) : (updateBacklog s).channels = s.channels :=
  (updateBacklog_queueOnly s).channels

@[simp] theorem updateBacklog_channel (s : State) (n : Str) :
    (updateBacklog s).channel n = s.channel n := (updateBacklog_queueOnly s).channel n

/-- What reporting BACKLOG active leaves, by whether it latches now, the mask, and the room (R153, R155). -/
theorem activateBacklog_reported (s : State) :
    (s.backlog.latched = true ∨ s.globals.reportMask.backlog = false →
      activateBacklog s = { s with backlog := { s.backlog with active := true, latched := true } })
    ∧ (s.backlog.latched = false → s.globals.reportMask.backlog = true → s.hasRoom 1 = true →
      activateBacklog s = { s with queue := s.queue.push (.condition .backlog true),
                                   backlog := ⟨true, true, true⟩ })
    ∧ (s.backlog.latched = false → s.globals.reportMask.backlog = true → s.hasRoom 1 = false →
      activateBacklog s = { s with queue := { s.queue with dropped := true },
                                   backlog := { s.backlog with active := true, latched := true } }) := by
  have room (b : Markers) : ({ s with backlog := b } : State).hasRoom 1 = s.hasRoom 1 := rfl
  refine ⟨fun h => ?_, fun l m r => ?_, fun l m r => ?_⟩
  · rcases h with h | h <;> simp [activateBacklog, h]
  · simp [activateBacklog, l, m, room, r, State.append]
  · simp [activateBacklog, l, m, room, r, State.refuse]

/-- What reporting BACKLOG inactive leaves where the marker has latched, by the end mark, the mask, and the
room (R154, R155). -/
theorem deactivateBacklog_reported (s : State) :
    (s.backlog.endMark = false ∨ s.globals.reportMask.backlog = false →
      deactivateBacklog s = { s with backlog := { s.backlog with active := false, endMark := false } })
    ∧ (s.backlog.endMark = true → s.globals.reportMask.backlog = true → s.hasRoom 1 = false →
      deactivateBacklog s = { s with queue := { s.queue with dropped := true },
                                     backlog := { s.backlog with active := false, endMark := false } })
    ∧ (s.backlog.endMark = true → s.globals.reportMask.backlog = true → s.hasRoom 1 = true →
      s.backlog.latched = true →
      deactivateBacklog s = { s with
        queue := s.queue.push (.condition .backlog false),
        backlog := ⟨decide (s.globals.highWater ≤ s.queue.commitment + 1), true, false⟩ }) := by
  have room (b : Markers) : ({ s with backlog := b } : State).hasRoom 1 = s.hasRoom 1 := rfl
  have pushed (r : Record) : (s.queue.push r).commitment = s.queue.commitment + 1 := by
    simp [Queue.push, Queue.commitment]; omega
  refine ⟨fun h => ?_, fun e m r => ?_, fun e m r l => ?_⟩
  · rcases h with h | h <;> simp [deactivateBacklog, h]
  · simp [deactivateBacklog, e, m, room, r, State.refuse]
  · by_cases u : s.globals.highWater ≤ s.queue.commitment + 1 <;>
      simp [deactivateBacklog, activateBacklog, State.backlogNow, State.append, e, m, room, r, l, u,
        pushed]

/-- What the comparison reports, clause by clause (R136, R152 to R155). -/
theorem updateBacklog_reported (s : State) :
    BacklogReported s.globals s.queue s.backlog (updateBacklog s).queue (updateBacklog s).backlog := by
  obtain ⟨a1, a2, a3⟩ := activateBacklog_reported s
  obtain ⟨d1, d2, d3⟩ := deactivateBacklog_reported s
  have room : s.hasRoom 1 = decide (s.queue.commitment + 1 ≤ 32) := rfl
  unfold BacklogReported updateBacklog State.backlogNow
  simp only [Nat.add_zero]
  refine ⟨fun h => ?_, fun a r => ⟨fun l => ?_, fun l m k => ?_, fun l m k => ?_⟩,
    fun a r => ⟨fun e => ?_, fun e m k => ?_, fun e m k l => ?_⟩⟩
  · by_cases r : s.globals.highWater ≤ s.queue.commitment
    · simp [r, h.mpr r]
    · simp [r, mt h.mp r]
  · simp [a, r, a1 l]
  · simp [a, r, a2 l m (by simpa [room] using k), Queue.push]
  · simp [a, r, a3 l m (by simpa [room] using k)]
  · simp [a, r, d1 e]
  · simp [a, r, d2 e m (by simpa [room] using k)]
  · have d := d3 e m (by simpa [room] using k) l
    simp only [r, decide_false, a, if_true, d, Queue.push]
    exact ⟨rfl, fun u => by simp [u], fun u => by simp [u]⟩

/-- An event whose change leaves the queue with `rs` joined and is then compared has admitted them. -/
theorem updateBacklog_admitted {s u : State} {rs : List Record}
    (q : u.queue = { s.queue with records := s.queue.records ++ rs, reserved := u.queue.reserved })
    (b : u.backlog = s.backlog) : Admitted s (updateBacklog u) rs := by
  have r := updateBacklog_reported u
  have g : (updateBacklog u).globals = u.globals := (updateBacklog_queueOnly u).outside.globals
  refine ⟨Joined.extend ⟨⟨[], by rw [q]; simp, rfl⟩, by rw [q]⟩ (updateBacklog_joined u), ?_⟩
  rw [g, (updateBacklog_account u).1, ← b, ← q]
  exact r

/-! ## A CONDITION or a NOTICE (R131) -/

/-- An offered CONDITION or NOTICE joins the list where there is room, R as it was, and sets DROPPED where
not. -/
theorem offerPlain_offered (r : Record) (s : State) :
    (s.hasRoom 1 = true →
        Admitted s (offerPlain r s) [r] ∧ (offerPlain r s).queue.reserved = s.queue.reserved)
      ∧ (s.hasRoom 1 = false → offerPlain r s = s.refuse) := by
  unfold offerPlain
  constructor
  · intro h
    rw [if_pos h]
    exact ⟨updateBacklog_admitted (u := s.append r) rfl rfl, (updateBacklog_account _).1⟩
  · intro h; simp [h]

@[simp] theorem offerPlain_channel (r : Record) (s : State) (n : Str) :
    (offerPlain r s).channel n = s.channel n := (offerPlain_queueOnly r s).channel n

/-! ## Note records (R128, R129) -/

/-- A NOTE-OFF of a reported voice joins the list, and its slots are given back. -/
theorem offerNoteOff_reported {n : Str} {s : State} (h : (s.channel n).voice.reported = true)
    (reason : OffReason) :
    Admitted s (offerNoteOff n reason s) [.noteOff n (s.channel n).voice.serial reason]
      ∧ (offerNoteOff n reason s).queue.reserved
        = s.queue.reserved - (if (s.channel n).voice.fix then 2 else 1)
      ∧ (offerNoteOff n reason s).channel n
        = (s.channel n).modVoice fun v => { v with reported := false, fix := false } := by
  unfold offerNoteOff
  dsimp only
  rw [if_pos h]
  refine ⟨?_, ?_, by simp [Channel.modVoice]⟩
  · exact updateBacklog_admitted rfl rfl
  · rw [(updateBacklog_account _).1]; simp [Queue.push]

theorem offerNoteOff_unreported {n : Str} {s : State} (h : (s.channel n).voice.reported = false)
    (reason : OffReason) : offerNoteOff n reason s = s := by
  simp [offerNoteOff, h]

end Sys2Proof.Machine
end

