-- ==== Sys2Proof/Laws/Notes.lean ====
section
/-! SUPPORT. What beginning and ending a note do to the voice, its reporter and the queue. -/

namespace Sys2Proof.Machine

/-- A lawful voice that is not sounding is not reported and holds no fix reservation. -/
theorem Voice.Lawful.unreported {v : Voice} (l : v.Lawful) (h : v.state ≠ .sounding) :
    v.reported = false ∧ v.fix = false := by
  constructor
  · cases e : v.reported
    · rfl
    · exact absurd (l.reported e) h
  · cases e : v.fix
    · rfl
    · exact absurd (l.reported (l.fix e)) h

/-- A lawful voice that is not muted has no mute cause. -/
theorem Voice.Lawful.unmuted {v : Voice} (l : v.Lawful) (h : v.state ≠ .muted) :
    v.damp = false ∧ v.openCause = false := by
  have m := l.muted
  simp only [Voice.hasCause, h, iff_false, Bool.or_eq_true, not_or, Bool.not_eq_true] at m
  exact m

/-- A NOTE-ON refused for want of room advances the serial and sets DROPPED, and nothing else. -/
theorem offerNoteOn_refused {n : Str} {s : State} {flag : NoteFlag}
    (h : s.hasRoom flag.room = false) (base velocity : Nat) (offset : Int) :
    offerNoteOn n base velocity offset flag s
      = (s.mod n (.modVoice fun v => { v with serial := v.serial + 1 })).refuse := by
  have h' : (s.mod n (.modVoice fun v => { v with serial := (s.channel n).voice.serial + 1 })).hasRoom
      (if flag.mayNeedFix then 3 else 2) = false := h
  simp only [offerNoteOn, h']
  rfl

/-- A NOTE-ON for which there is room joins the list; its slots are reserved, and the voice is reported
under the next serial. -/
theorem offerNoteOn_admitted {n : Str} {s : State} {flag : NoteFlag}
    (h : s.hasRoom flag.room = true) (base velocity : Nat) (offset : Int) :
    Admitted s (offerNoteOn n base velocity offset flag s)
        [.noteOn n ((s.channel n).voice.serial + 1) base velocity offset flag]
      ∧ (offerNoteOn n base velocity offset flag s).queue.reserved
        = s.queue.reserved + (flag.room - 1)
      ∧ (offerNoteOn n base velocity offset flag s).channel n
        = (s.channel n).modVoice fun v =>
            { v with serial := v.serial + 1, reported := true, fix := flag.mayNeedFix } := by
  have h' : (s.mod n (.modVoice fun v => { v with serial := (s.channel n).voice.serial + 1 })).hasRoom
      (if flag.mayNeedFix then 3 else 2) = true := h
  simp only [offerNoteOn, h', if_true]
  refine ⟨updateBacklog_admitted rfl rfl, ?_, ?_⟩
  · rw [(updateBacklog_account _).1]; simp [Queue.push, NoteFlag.room]
  · simp [Channel.modVoice]

/-- A note that begins on a voice that is not reported is as R63, R70, R71, R111 and R114 say. -/
theorem beginNote_begun {n : Str} {s : State} (hr : (s.channel n).voice.reported = false)
    (hf : (s.channel n).voice.fix = false) (base : Nat) (pitch : Option Nat) (offset : Int)
    (kind : StartKind) (flag : NoteFlag) (velocity : Nat) :
    NoteBegun n base pitch offset kind flag velocity s
      (beginNote n base pitch offset kind flag velocity s) := by
  cases room : s.hasRoom flag.room
  · have e := offerNoteOn_refused (n := n) room base velocity offset
    refine ⟨?_, ?_, ?_, ?_⟩
    · simp [beginNote, e, Channel.modVoice, Voice.entering, Voice.reset, hr, hf, room]
    · simp [beginNote, e, Channel.modVoice, Reporter.begin]
    · intro k; rw [room] at k; cases k
    · intro _; simp [beginNote, e]
  · obtain ⟨j, r, c⟩ := offerNoteOn_admitted (n := n) room base velocity offset
    refine ⟨?_, ?_, ?_, ?_⟩
    · simp [beginNote, c, Channel.modVoice, Voice.entering, Voice.reset, room]
    · simp [beginNote, c, Channel.modVoice, Reporter.begin]
    · intro _
      exact ⟨j, r⟩
    · intro k; rw [room] at k; cases k

/-- A note that ends gives a reported voice's NOTE-OFF to the queue and starts the retrigger drop. -/
theorem endNote_line (n : Str) (reason : OffReason) (s : State) :
    ((endNote n reason s).channel n).gateLine = { (s.channel n).gateLine with
      high := false, drop := some 0, checkDue := false, fresh := s.atFrameEnd } := by
  have o := (offerNoteOff_onlyString n reason s).outside.frameSamples
  cases h : (s.channel n).voice.reported
  · simp [endNote, lowerLine, offerNoteOff_unreported h, State.atFrameEnd]
  · simp [endNote, lowerLine, (offerNoteOff_reported h reason).2.2, Channel.modVoice,
      State.atFrameEnd, o]

end Sys2Proof.Machine
end

