-- ==== Sys2Proof/WellFormed.lean ====
section
/-! DEFINITION. Which terms of `Instr` are steps of the part. The operands' types already hold
exactly the values the spec admits (eight strings, eight-bit bytes, two-level pins), so one check
is left: the two steps that carry an order of strings carry an order, in which no string stands
twice. -/

namespace Sys2Proof

/-- No string stands twice. -/
def Str.distinct : List Str → Bool
  | [] => true
  | n :: rest => !rest.contains n && Str.distinct rest

/-- The order of strings a step carries, if it carries one. -/
def Instr.order? : Instr → Option (List Str)
  | .sample _ order => some order
  | .wakeByString order => some order
  | .ident | .status | .setProfile | .getProfile | .commit | .setGlobal | .getGlobal
  | .clearConditions | .events | .flush | .releaseDamp | .lock | .doze | .wake | .readVoice
  | .restart | .unknownKind | .receivedByte _ _ | .interByteTimeout | .transmitTake | .frameSent
  | .restartReset _ | .powerOn _ | .resetN | .supplyDrop _ | .startEnd | .crossing _
  | .estimate _ | .frameEnd _ | .clipEnd _ | .openActive _ | .openEnd _
  | .articulationJudgement _ | .releaseHoldExpiry _ | .velocityCompletion _
  | .bleedPerFrameStep _ | .bleedWindowExpiry _ | .acquisitionExpiry _ | .stallExpiry _
  | .lostLimitExpiry _ | .glideBoundary _ | .retriggerDropExpiry _ | .dampAssertion
  | .dampDeassertion | .idleDoze | .resetNReleased _ => none

/-- A step is well formed when the order it carries, if any, names no string twice. -/
def Instr.wellFormed (i : Instr) : Bool :=
  match i.order? with
  | some order => Str.distinct order
  | none => true

end Sys2Proof
end

