-- ==== Sys2Proof/Tests/Slice0.lean ====
section
/-! SUPPORT. Tests: what WellFormed refuses, the spec's worked examples, and, for each statement with
hypotheses, states and operands that meet them. -/

namespace Sys2Proof.Machine.Tests

-- One theorem after another: elaborated together, they ask for more threads than memory allows.
set_option Elab.async false

/-! ## Well-formedness and decoding -/

theorem test_sample_order_twice_refused :
    (Instr.sample ⟨0, 0, 0, 0, 0, 0, 0, 0⟩ [.s2, .s2]).wellFormed = false := by decide

theorem test_wake_order_twice_refused :
    (Instr.wakeByString [.s1, .s8, .s1]).wellFormed = false := by decide

theorem test_order_accepted : (Instr.wakeByString [.s8, .s1]).wellFormed = true := by decide

theorem test_no_word_is_a_step : decodeTableWord 8 0x7e = none := by decide

theorem test_fetch_word_leaves_state :
    State.reset.withFetchWord 8 0x7e = State.reset := by decide +kernel

/-! ## The spec's numbers -/

/-- The table of R20. -/
theorem test_period_limits :
    (Str.all.map fun n => ((defaultProfile n).pmin, (defaultProfile n).pmax))
      = [(2395, 14357), (3197, 19164), (4028, 24145), (5377, 32230), (7178, 43022),
         (9581, 57427), (12790, 76655), (17072, 102323)] := by decide +kernel

/-- The table of R82. -/
theorem test_stall_times :
    (Str.all.map fun n => stallTime (defaultProfile n).pmax)
      = [57, 75, 95, 126, 169, 225, 300, 400] := by decide +kernel

/-- The outermost limits (R20). -/
theorem test_outermost_periods : periodDown 225 = 754 ∧ periodUp 23 = 257836 := by decide +kernel

/-- The table of R32. -/
theorem test_pitch_of_440 : pitchOf 9309 1 = 4416 := by decide +kernel
theorem test_pitch_of_note_50 : pitchOf 27895 1 = 3200 := by decide +kernel
theorem test_pitch_of_note_45 : pitchOf 37236 1 = 2880 := by decide +kernel
theorem test_pitch_of_36000 : pitchOf 36000 1 = 2917 := by decide +kernel
theorem test_pitch_of_note_30 : pitchOf 88563 1 = 1920 := by decide +kernel

/-- Section 1.3's worked example: the transit (−2, +9) at 512 and the wrapped interval. -/
theorem test_interpolated_crossing :
    (Transit.stampOf ⟨-2 * 4096, 9 * 4096, 512⟩).toNat = 535
      ∧ (Transit.stampOf ⟨-5 * 4096, 18 * 4096 - 5 * 4096, 256⟩).toNat = 292
      ∧ interval 16768000 535 = 9751 := by decide +kernel

/-- The velocities of sections 3.9 and 3.10. -/
theorem test_velocities :
    velocityOf 1536 1240 = 103 ∧ velocityOf 1536 1380 = 114 ∧ velocityOf 1536 800 = 66
      ∧ velocityOf 1536 1700 = 127 := by decide

/-- Section 10.1: a STATUS command is sent as 7Eh 01h 02h 1Bh. -/
theorem test_status_frame : frameBytes 0x02 [] = [0x7e, 0x01, 0x02, 0x1b] := by decide +kernel

/-- CHECK of the characters 1 to 9, the model's and R162's written out. -/
theorem test_check_value :
    crc8 [0x31, 0x32, 0x33, 0x34, 0x35, 0x36, 0x37, 0x38, 0x39] = 0xf4
      ∧ checkByte [0x31, 0x32, 0x33, 0x34, 0x35, 0x36, 0x37, 0x38, 0x39] = 0xf4 := by decide +kernel

/-- Section 8.2's worked example: index 5, and index 15 with the bend range lowered. -/
theorem test_first_failing_field :
    let p := { defaultProfile .s2 with openNote := 64, span := 36, bendRange := 24,
                                       onThreshold := 160, offThreshold := 200 }
    firstFailing (profileChecks .s2 p.bytes) = some 5
      ∧ firstFailing (profileChecks .s2 { p with bendRange := 12 }.bytes) = some 15 := by
  decide +kernel

/-- The default profiles and settings are valid and read back. -/
theorem test_defaults_valid :
    (Str.all.all fun n => firstFailing (profileChecks n (defaultProfile n).bytes) == none
        && profileOf (defaultProfile n).bytes == defaultProfile n) = true
      ∧ firstFailing (globalChecks defaultGlobals.bytes) = none
      ∧ globalsOf defaultGlobals.bytes = defaultGlobals := by decide +kernel

/-- Section 7.9's worked example: the commitment 24 with BACKLOG at 28, through its first four steps. -/
def strummed : State :=
  { State.reset with
    queue := { Queue.reset with
      records := .glide .s3 1 4 :: List.replicate 19 (.notice .dozing), reserved := 4 } }

theorem test_strummed_burst :
    let a := offerNoteOn .s5 45 80 0 .provisional strummed
    let b := offerGlide .s3 9 a
    let c := offerNoteOn .s6 40 80 0 .none b
    (a.queue.records.length, a.queue.reserved) = (21, 6)
      ∧ (b.queue.records.length, b.queue.records.head?) = (21, some (.glide .s3 1 9))
      ∧ (c.queue.records.length, c.queue.reserved, c.backlog.active) = (23, 7, true)
      ∧ c.queue.records.getLast? = some (.condition .backlog true) := by decide +kernel

/-! ## States for the witnesses -/

/-- The part in RUN, right after START, with nothing queued. -/
def running : State :=
  { State.reset with modes := { State.reset.modes with mode := .run } }

/-- The part in DOZE. -/
def dozing : State :=
  { State.reset with modes := { State.reset.modes with mode := .doze } }

/-- The part in RUN with string 1 as it is given. -/
def with1 (f : Channel → Channel) : State := running.mod .s1 f

/-- A command in the input buffer. -/
def holding (kind : Byte) (payload : List Byte) (s : State) : State :=
  { s with link := { s.link with buffer := [⟨kind, payload⟩] } }

theorem holding_awaits (kind : Byte) (payload : List Byte) {s : State}
    (h : s.modes.resetPinLow = false) (k : s.modes.restart = .none) (l : s.link.slot = none) :
    Awaits (holding kind payload s) kind payload [] := ⟨h, l, k, rfl⟩

theorem running_awaits (kind : Byte) (payload : List Byte) :
    Awaits (holding kind payload running) kind payload []
      ∧ (holding kind payload running).modes.mode ≠ .start :=
  ⟨holding_awaits kind payload rfl rfl rfl, nofun⟩

/-- A sounding voice on note 48 at pitch 3072. -/
def sounding : Voice :=
  { Voice.reset with state := .sounding, serial := 5, baseNote := some 48,
                     currentPitch := some 3072, startKind := some .normal,
                     velocity := some 100, stallTimer := some 3, reported := true }

/-- An acquiring voice. -/
def acquiring : Voice := { Voice.reset with state := .acquiring, acqTimer := some 3 }

/-- String 1 with a voice and the parts that belong to it. -/
def voiced (v : Voice) : State :=
  { with1 fun c =>
      { c with
        voice := v, detector := { Detector.reset with gate := .opened },
        reporter := { output := v.currentPitch, lastReported := some 0, schedule := some 0,
                      boundaryDue := false, fresh := false },
        gateLine := { GateLine.reset with high := true } } with
    queue := { Queue.reset with reserved := v.reported.toNat + v.fix.toNat } }

/-- A voice's law, checked. -/
def lawfulVoice (v : Voice) : Bool :=
  decide ((v.baseNote.isSome = true ↔ v.state = .sounding)
    ∧ (v.hasCause = true ↔ v.state = .muted) ∧ (v.reported = true → v.state = .sounding)
    ∧ (v.fix = true → v.reported = true) ∧ (v.state = .sounding → v.startKind.isSome = true)
    ∧ (v.state = .acquiring →
      (v.currentPitch.isSome = true ↔ v.startKind = some .normal ∨ v.startKind = some .provisional))
    ∧ (v.state = .sounding → (v.currentPitch.isSome = true ↔ v.startKind ≠ some .unpitched))
    ∧ (v.state = .sounding → v.velocity.isSome = true)
    ∧ (v.stallTimer.isSome = true ↔ v.state = .sounding) ∧ (v.lost = true → v.state = .sounding)
    ∧ v.lostTimer.isSome = v.lost ∧ (v.acqTimer.isSome = true ↔ v.state = .acquiring)
    ∧ (v.acqExpired = true → v.state = .acquiring) ∧ (v.held.isSome = true → v.state = .suspect)
    ∧ (v.candidate.isSome = true → v.state = .sounding)
    ∧ (v.state = .quiet ∨ v.state = .silent ∨ v.state = .muted → v = v.entering v.state))

theorem lawful_of_check {v : Voice} (h : lawfulVoice v = true) : v.Lawful := by
  obtain ⟨a, b, c, d, e, f, g, i, j, k, l, m, n, o, p, q⟩ := of_decide_eq_true h
  exact ⟨a, b, c, d, e, f, g, i, j, k, l, m, n, o, p, q⟩

/-- A string's law, checked. -/
def lawfulChannel (c : Channel) : Bool :=
  lawfulVoice c.voice
    && decide ((c.voice.state = .quiet → c.detector.gate = .closed)
      ∧ (c.voice.state ≠ .quiet → c.voice.state ≠ .muted → c.detector.gate ≠ .closed))
    && decide (c.gateLine.high = (c.voice.state == .sounding && c.gateLine.drop.isNone))
    && decide ((c.reporter.output.isSome = true
        ↔ c.voice.state = .sounding ∧ c.voice.startKind ≠ some .unpitched)
      ∧ (c.reporter.lastReported.isSome = true ↔ c.voice.state = .sounding)
      ∧ (c.reporter.schedule.isSome = true
        ↔ c.voice.state = .sounding ∧ c.active.glideMode ≠ .onEstimate))
    && decide ((c.bleed.timer.isSome = true ↔ c.voice.state = .suspect)
      ∧ c.voice.openCause = c.openMarks.active)
    && (c.active.enabled || decide ((c.voice.state = .quiet ∧ c.voice.hasCause = false)
      ∧ (c.detector.rearmWait = false ∧ c.detector.judgementDue = false
        ∧ c.detector.completion = none)
      ∧ (c.capture.ring = [] ∧ c.capture.handed = none ∧ c.capture.delivered = none)
      ∧ (c.lane.clipQuiet = 0 ∧ c.lane.openHold = 0 ∧ c.lane.openRelease = 0)
      ∧ c.lane = c.lane.clearCrossing ∧ (c.clip = .clear ∧ c.openMarks = .clear)
      ∧ (c.gateLine.high = false ∧ c.gateLine.drop = none)))

theorem lawful_channel_of_check {c : Channel} (h : lawfulChannel c = true) : c.Lawful := by
  simp only [lawfulChannel, Bool.and_eq_true, Bool.or_eq_true, decide_eq_true_eq] at h
  obtain ⟨⟨⟨⟨⟨a, b⟩, d⟩, e⟩, f⟩, g⟩ := h
  refine ⟨lawful_of_check a, b, d, ⟨e.1, e.2.1, e.2.2⟩, f.1, f.2, fun k => ?_⟩
  rcases g with g | ⟨g1, g2, g3, g4, g5, g6, g7⟩
  · rw [k] at g; cases g
  · exact ⟨g1, g2, g3, g4, g5, g6, g7⟩

/-- What a profile's record and its reading back say of its validity, checked. -/
def lawfulProfile (n : Str) (p : Profile) : Bool :=
  decide ((12 ≤ p.openNote ∧ p.openNote ≤ 100) ∧ (12 ≤ p.span ∧ p.span ≤ 36)
    ∧ (p.downAllowance ≤ 5 ∧ 12 + p.downAllowance ≤ p.openNote)
    ∧ (1 ≤ p.bendRange ∧ p.bendRange ≤ 24 ∧ p.openNote + p.span + p.bendRange ≤ 112)
    ∧ p.gainCode ≤ 7 ∧ p.bandCode ≤ 7 ∧ p.hysteresis ≤ 255
    ∧ (1 ≤ p.persistence ∧ p.persistence ≤ 4) ∧ (1 ≤ p.decayStep ∧ p.decayStep ≤ 255)
    ∧ p.edgeSpanCode ≤ 3 ∧ p.attackGuard ≤ 7 ∧ (1 ≤ p.toleranceCode ∧ p.toleranceCode ≤ 8)
    ∧ (1 ≤ p.onThreshold ∧ p.onThreshold ≤ 2047) ∧ p.offThreshold ≤ p.onThreshold
    ∧ p.dipMin < p.dipMax ∧ p.dipMax ≤ 255)
  && decide ((p.releaseHoldCode ≤ 10 ∧ p.dipMax < releaseHold p.releaseHoldCode)
    ∧ (p.surgeRatio = 0 ∨ (10 ≤ p.surgeRatio ∧ p.surgeRatio ≤ 32))
    ∧ (2 ≤ p.surgeWindow ∧ p.surgeWindow ≤ 16) ∧ (4 ≤ p.surgeRefractory ∧ p.surgeRefractory ≤ 255)
    ∧ (1 ≤ p.velocityWindow ∧ p.velocityWindow ≤ 16)
    ∧ (64 ≤ p.velocityReference ∧ p.velocityReference ≤ 2048)
    ∧ (8 ≤ p.acquisitionLimit ∧ p.acquisitionLimit ≤ 255 ∧ p.velocityWindow ≤ p.acquisitionLimit)
    ∧ (16 ≤ p.stepThreshold ∧ p.stepThreshold ≤ 96) ∧ (1 ≤ p.stepHold ∧ p.stepHold ≤ 4)
    ∧ (4 ≤ p.lostLimit ∧ p.lostLimit ≤ 1023)
    ∧ (p.associations.length ≤ 2 ∧ p.associations.all (Association.valid n) = true
      ∧ distinctSources p.associations = true)
    ∧ (1 ≤ p.bleedWindow ∧ p.bleedWindow ≤ 255) ∧ p.glideMode.valid = true ∧ p.deadband ≤ 15
    ∧ p.slew ≤ 255 ∧ (1 ≤ p.retriggerDrop ∧ p.retriggerDrop ≤ 63))

theorem valid_of_check {n : Str} {p : Profile} (h : lawfulProfile n p = true) : p.Valid n := by
  simp only [lawfulProfile, Bool.and_eq_true, decide_eq_true_eq] at h
  obtain ⟨⟨a1, a2, a3, a4, a5, a6, a7, a8, a9, a10, a11, a12, a13, a14, a15, a16⟩,
    b1, b2, b3, b4, b5, b6, b7, b8, b9, b10, b11, b12, b13, b14, b15, b16⟩ := h
  exact ⟨a1, a2, a3, a4, a5, a6, a7, a8, a9, a10, a11, a12, a13, a14, a15, a16, b1, b2, b3, b4,
    b5, b6, b7, b8, b9, b10, b11, b12, b13, b14, b15, b16⟩

/-- What a string of a sound state outside START is, its ring empty, checked. -/
def soundString (s : State) (n : Str) : Bool :=
  let c := s.channel n
  decide ((lawfulProfile n c.active = true ∧ lawfulProfile n c.staged = true
      ∧ (c.pendingFlag = false → c.staged = c.active))
    ∧ lawfulChannel c = true
    ∧ (c.capture.pmin = c.active.pmin ∧ c.capture.pmax = c.active.pmax ∧ c.capture.ring = []
      ∧ c.capture.age = 0)
    ∧ (((c.clip.active = true → c.clip.latched = true)
        ∧ (c.clip.endMark = true → c.clip.active = true))
      ∧ (c.openMarks.active = true → c.openMarks.latched = true)
        ∧ (c.openMarks.endMark = true → c.openMarks.active = true))
    ∧ c.voice.damp = (s.mute.inForce && c.active.enabled)
    ∧ (c.pendingFlag = true → c.voice.state ≠ .quiet)
    ∧ (s.modes.mode = .doze →
      (c.voice.state = .quiet ∨ c.voice.state = .muted)
      ∧ (c.detector.gate = .closed ∧ c.detector.judgementDue = false
        ∧ c.detector.completion = none)
      ∧ (c.capture.ring = [] ∧ c.capture.handed = none ∧ c.capture.delivered = none)
      ∧ c.lane = c.lane.clearCrossing ∧ (c.gateLine.high = false ∧ c.gateLine.drop = none)))

/-- Whether every queued record is a NOTICE. -/
def onlyNotices (rs : List Record) : Bool :=
  rs.all fun r => match r with
    | .notice _ => true
    | .noteOn .. | .noteOff .. | .glide .. | .pitchFix .. | .condition .. => false

/-- Notices stand in no note's way. -/
theorem readNotes_of_notices (n : Str) (opened : Option Byte) {rs : List Record}
    (h : onlyNotices rs = true) :
    readNotes n rs opened = some opened ∧ rs.filter (Record.isGlideOf n) = [] := by
  induction rs with
  | nil => exact ⟨rfl, rfl⟩
  | cons r rest ih =>
    cases r with
    | notice k => exact ih h
    | _ => cases h

/-- Whether the frame in transmission is the reply of a RESTART. -/
def sendsRestartReply (tx : Transmitter) : Bool :=
  match tx with
  | .sending _ restartReply => restartReply
  | .idle => false

/-- What a sound state outside START whose queue holds only notices is, checked. -/
def soundState (s : State) : Bool :=
  (Str.all.all (soundString s))
  && decide ((s.globals.dozeIdleCode ≤ 15
      ∧ (1 ≤ s.globals.wakeThreshold ∧ s.globals.wakeThreshold ≤ 2047)
      ∧ (8 ≤ s.globals.highWater ∧ s.globals.highWater ≤ 31))
    ∧ (s.timebase.toNat % 128 = 0 ∧ s.frameSamples ≤ 8 ∧ s.modes.settle ≤ startFrames)
    ∧ (onlyNotices s.queue.records = true ∧ s.queue.commitment ≤ queueCapacity
      ∧ s.queue.reserved = s.slotsHeld)
    ∧ ((s.backlog.active = true → s.backlog.latched = true)
      ∧ (s.backlog.endMark = true → s.backlog.active = true)
      ∧ s.backlog.active = s.backlogNow)
    ∧ ((s.globals.dampMode = .off → s.mute.inForce = false ∧ s.mute.latch = false)
      ∧ (s.globals.dampMode = .follow → s.mute.inForce = s.mute.debounced ∧ s.mute.latch = false)
      ∧ (s.globals.dampMode = .latch → s.mute.inForce = s.mute.latch))
    ∧ (s.modes.mode ≠ .start ∧ (s.modes.mode = .doze → s.modes.idleDue = false))
    ∧ (s.link.rxState = .hunt ∧ s.link.rxBody = [] ∧ s.link.rxTimer = 0
      ∧ s.link.buffer.length ≤ 2
      ∧ (sendsRestartReply s.link.tx = true → s.modes.restart = .due)))

theorem sound_of_check {s : State} (h : soundState s = true) : Invariant s := by
  simp only [soundState, Bool.and_eq_true, List.all_eq_true, decide_eq_true_eq] at h
  obtain ⟨strings, settings, clock, ⟨notices, capacity, account⟩, backlog, mute, modes, link⟩ := h
  have each (n : Str) := of_decide_eq_true (strings n (Str.mem_all n))
  exact
    { settings :=
        { active := fun n => valid_of_check (each n).1.1
          staged := fun n => valid_of_check (each n).1.2.1
          copied := fun n => (each n).1.2.2
          globals := ⟨settings.1, settings.2.1, settings.2.2⟩ }
      capture := fun n => by
        obtain ⟨_, _, ⟨pmin, pmax, ring, age⟩, _⟩ := each n
        refine ⟨pmin, pmax, ?_, fun _ => ring, fun _ => age, by rw [age]; omega⟩
        rw [ring]; exact ⟨by simp, by simp [intervals]⟩
      timebase := clock.1
      conditions := ⟨fun n => (each n).2.2.2.1, backlog.1, backlog.2.1⟩
      queue := ⟨capacity, account⟩
      backlog := backlog.2.2
      oneGlide := fun n => by rw [(readNotes_of_notices n none notices).2]; decide
      noteOrder := fun n => ⟨_, (readNotes_of_notices n _ notices).1⟩
      channels := fun n => lawful_channel_of_check (each n).2.1
      damp := ⟨mute.1, mute.2.1, mute.2.2, fun n => (each n).2.2.2.2.1⟩
      start := fun k => absurd k modes.1
      doze := fun k => ⟨modes.2 k, fun n => by
        obtain ⟨voice, detector, capture, crossing, line⟩ := (each n).2.2.2.2.2.2 k
        exact { voice, detector, capture, crossing, line }⟩
      pending := fun _ n => (each n).2.2.2.2.2.1
      link :=
        { hunt := fun _ => ⟨link.2.1, link.2.2.1⟩
          length := fun k => absurd (link.1.symm.trans k) (by decide)
          body := fun k => absurd (link.1.symm.trans k) (by decide)
          check := fun k => absurd (link.1.symm.trans k) (by decide)
          timer := by rw [link.2.2.1]; decide
          buffer := link.2.2.2.1
          restartReply := fun bytes k => link.2.2.2.2 (by rw [k]; rfl) }
      frames := clock.2 }

theorem sound_running : Invariant running := sound_of_check (by decide +kernel)

/-! ## Witnesses: the queue of steps, resets, the handler -/

theorem witness_StepTakesTheFront :
    ({ running with pending := [.ident] } : State).pending = .ident :: [] ∧ running.pending = [] :=
  ⟨rfl, rfl⟩

/-- The part held in reset. -/
def held : State := { running with modes := { running.modes with resetPinLow := true } }

theorem witness_SupplyAndPinResets :
    running.modes.resetPinLow = false ∧ held.modes.resetPinLow = true := ⟨rfl, rfl⟩

theorem witness_HeldInReset :
    held.modes.resetPinLow = true
      ∧ (∀ straps, Instr.flush ≠ .powerOn straps ∧ Instr.flush ≠ .supplyDrop straps
          ∧ Instr.flush ≠ .resetNReleased straps) :=
  ⟨rfl, fun _ => ⟨nofun, nofun, nofun⟩⟩

/-- The part with a restart in this phase, its transmitter as given. -/
def restarting (phase : RestartPhase) (tx : Transmitter) : State :=
  { running with modes := { running.modes with restart := phase },
                 link := { running.link with tx := tx } }

theorem witness_RestartResets :
    (restarting .due .idle).modes.restart = .due
      ∧ (∀ bytes, (restarting .due .idle).link.tx ≠ .sending bytes true) ∧
    (restarting .replySent .idle).modes.restart = .replySent
      ∧ (restarting .due (.sending [0x7e] true)).modes.restart = .due
      ∧ (restarting .due (.sending [0x7e] true)).link.tx = .sending [0x7e] true
      ∧ running.modes.restart = .none := ⟨rfl, fun _ => nofun, rfl, rfl, rfl, rfl⟩

/-- The end of START, string 1 with or without a pending profile. -/
def starting (pendingFlag : Bool) : State :=
  { State.reset with
    modes := { State.reset.modes with settle := 512 },
    channels := .of fun n => .reset (defaultProfile n) (defaultProfile n) (n == .s1 && pendingFlag) }

theorem witness_StartEnds : (running.modes.mode ≠ .start ∧ State.reset.modes.settle ≠ 512) ∧ ∀ flag, (starting flag).modes.resetPinLow = false
    ∧ (starting flag).modes.mode = .start ∧ (starting flag).modes.settle = 512
    ∧ StartForm (starting flag) ∧ (starting flag).globals.Valid
    ∧ ((starting flag).channel .s1).pendingFlag = flag := by
  refine ⟨⟨nofun, nofun⟩, fun flag => ?_⟩
  refine ⟨rfl, rfl, rfl, ⟨fun n => by cases n <;> rfl, rfl, ⟨rfl, rfl⟩, rfl, rfl, rfl,
    ⟨rfl, rfl, rfl, rfl⟩⟩,
    ⟨by cases flag <;> decide, by cases flag <;> decide, by cases flag <;> decide⟩, by cases flag <;> rfl⟩

theorem witness_CommonRefusals :
    Awaits (holding 0x00 [] running) 0x00 [] [] ∧ Awaits (holding 0x10 [] running) 0x10 [] []
      ∧ ¬(1 ≤ (0x00 : Byte).toNat ∧ (0x00 : Byte).toNat ≤ 15)
      ∧ ¬(1 ≤ (0x10 : Byte).toNat ∧ (0x10 : Byte).toNat ≤ 15)
      ∧ commandRow .flush = some (0x0a, [1], false) ∧ ([0] : List Byte).length + 1 ∉ [1]
      ∧ ([] : List Byte).length + 1 ∈ [1] ∧ Awaits (holding 0x0a [] State.reset) 0x0a [] []
      ∧ (holding 0x0a [] State.reset).modes.mode = .start
      ∧ commandRow .doze = some (0x0d, [2], false) ∧ ([0] : List Byte) ≠ [1] :=
  ⟨holding_awaits _ _ rfl rfl rfl, holding_awaits _ _ rfl rfl rfl, by decide, by decide, rfl,
    by decide, by decide, holding_awaits _ _ rfl rfl rfl, rfl, rfl, by decide⟩

/-- Handler steps that take no frame: the slot full, a restart due, the buffer empty, another command's frame. -/
theorem witness_HandlerWaits :
    (reply 0x02 .taken [] (holding 0x0a [] running)).link.slot ≠ none
      ∧ (restarting .due .idle).modes.restart ≠ .none ∧ running.link.buffer = []
      ∧ ¬FrameOf .unknownKind ⟨0x0f, []⟩ ∧ FrameOf .unknownKind ⟨0x10, []⟩
      ∧ ¬FrameOf .wake ⟨0x0d, [0]⟩ ∧ FrameOf .doze ⟨0x0d, [0]⟩
      ∧ ¬FrameOf .flush ⟨0x0b, []⟩ ∧ FrameOf .flush ⟨0x0a, [1]⟩ := by
  refine ⟨nofun, nofun, rfl, ?_, .inl (by decide), ?_, .inr ⟨_, _, rfl, nofun, nofun⟩, ?_,
    .inr ⟨_, _, rfl, nofun, nofun⟩⟩
  · rintro (⟨-, h⟩ | ⟨_, _, h, -⟩)
    · exact h (by decide)
    · cases h
  · rintro (⟨h, -⟩ | ⟨_, _, -, -, h⟩)
    · cases h
    · exact h rfl rfl
  · rintro (⟨h, -⟩ | ⟨_, _, h, -⟩) <;> cases h

theorem witness_IdentAndStatusReport :
    (∀ option : Byte, Awaits (holding 0x01 [option] State.reset) 0x01 [option] [])
      ∧ Awaits (holding 0x02 [] State.reset) 0x02 [] [] :=
  ⟨fun _ => holding_awaits _ _ rfl rfl rfl, holding_awaits _ _ rfl rfl rfl⟩

theorem witness_ReadingCommandsReply :
    (∀ string selector : Byte, Awaits (holding 0x04 [string, selector] running) 0x04
        [string, selector] [] ∧ Awaits (holding 0x0e [string] running) 0x0e [string] [])
      ∧ Awaits (holding 0x07 [] running) 0x07 [] [] ∧ Str.ofNumber (8 : Byte).toNat = some .s8
      ∧ Str.ofNumber (0 : Byte).toNat = none ∧ Str.ofNumber (9 : Byte).toNat = none :=
  ⟨fun _ _ => ⟨(running_awaits _ _).1, (running_awaits _ _).1⟩, (running_awaits _ _).1, by decide,
    by decide, by decide⟩

/-! ## Witnesses: the profile store -/

/-- A running part with LOCK set. -/
def locked : State := { running with lock := true }

/-- String 1 silent, with an open gate. -/
def silent1 : State := with1 fun c =>
  { c with voice := { Voice.reset with state := .silent },
           detector := { Detector.reset with gate := .opened } }

theorem witness_SetProfileStagesOrCommits :
    let record := (defaultProfile .s1).bytes
    let bad := { defaultProfile .s1 with openNote := 11 }.bytes
    running.modes.mode ≠ .start ∧ record.length = 43 ∧ bad.length = 43
      ∧ (∀ kind payload, Awaits (holding kind payload running) kind payload [])
      ∧ Awaits (holding 0x03 (1 :: record) locked) 0x03 (1 :: record) [] ∧ locked.lock = true
      ∧ running.lock = false ∧ firstFailing (profileChecks .s1 bad) = some 2
      ∧ firstFailing (profileChecks .s1 record) = none
      ∧ (running.channel .s1).voice.state = .quiet ∧ (silent1.channel .s1).voice.state ≠ .quiet :=
  ⟨nofun, by decide +kernel, by decide +kernel, fun _ _ => (running_awaits _ _).1,
    holding_awaits _ _ rfl rfl rfl, rfl, rfl, by decide +kernel, by decide +kernel, rfl,
    by decide +kernel⟩

theorem witness_CommitTakesTheProfile :
    let c := Channel.default .s1
    let back : Channel := { Channel.default .s7 with staged := { c.staged with gainCode := 0 } }
    let louder : Channel := { c with active := { c.active with gainCode := 1 } }
    c.staged.enabled = true ∧ (Channel.default .s7).staged.enabled = false
      ∧ c.active.gainCode ≤ c.staged.gainCode ∧ louder.active.gainCode = 1
      ∧ { louder with staged := { c.staged with gainCode := 0 } }.staged.gainCode
        < louder.active.gainCode
      ∧ back.active.enabled = false ∧ back.staged.enabled = true := by
  decide +kernel

/-- String 1 silent with a pending profile. -/
def staged1 : State := silent1.mod .s1 fun c => { c with pendingFlag := true }

/-- String 1 muted by OPEN with a pending profile. -/
def muted1 : State := with1 fun c =>
  { c with pendingFlag := true, voice := { Voice.reset with state := .muted, openCause := true },
           openMarks := ⟨true, true, false⟩ }

/-- String 1's staged profile disables it. -/
def disabling (s : State) : State :=
  s.mod .s1 fun c => { c with staged := { c.staged with enabled := false } }

/-- String 1 sounding with a pending profile, its note reported. -/
def sounding1 : State := (voiced sounding).mod .s1 fun c => { c with pendingFlag := true }

/-- String 1 acquiring with its pitch known and a pending profile, a velocity completed at this frame end. -/
def struck : State := with1 fun c =>
  { c with
    pendingFlag := true
    voice := { acquiring with currentPitch := some 3072, startKind := some .normal }
    detector := { Detector.reset with
      gate := .opened, phase := .complete, velocity := some 90, completion := some 90 } }

theorem witness_CommitForcesTheProfile :
    (∀ s ∈ [staged1, muted1, sounding1, struck, disabling staged1, disabling muted1,
          disabling sounding1],
        Invariant (holding 0x05 [1] s) ∧ Awaits (holding 0x05 [1] s) 0x05 [1] []
          ∧ (s.channel .s1).pendingFlag = true)
      ∧ (running.channel .s1).pendingFlag = false ∧ Str.ofNumber (1 : Byte).toNat = some .s1
      ∧ (sounding1.channel .s1).voice.reported = true := by
  refine ⟨?_, rfl, by decide, by decide +kernel⟩
  simp only [List.forall_mem_cons, List.not_mem_nil, false_imp_iff, implies_true, and_true]
  refine ⟨?_, ?_, ?_, ?_, ?_, ?_, ?_⟩ <;>
    exact ⟨sound_of_check (by decide +kernel), holding_awaits _ _ rfl rfl rfl, by decide +kernel⟩

/-- The records queued by a handler step. -/
def queued (i : Instr) (s : State) : List Record :=
  match exec i s with
  | .next t => t.queue.records
  | .fault _ | .refused _ => []

/-- A COMMIT after the judgement ends the note that the judgement's completion begins (R56, R93). -/
theorem test_commit_takes_the_completion_first :
    queued .commit (holding 0x05 [1] struck)
      = [.noteOn .s1 1 48 90 0 .none, .noteOff .s1 1 .reconfigure] := by decide +kernel

/-- So does a doze entry (R57, R94). -/
theorem test_doze_takes_the_completion_first :
    queued .doze (holding 0x0d [0] struck)
      = [.noteOn .s1 1 48 90 0 .none, .noteOff .s1 1 .doze, .notice .dozing] := by decide +kernel

/-- Every enabled voice under the damp mute, in force under this mode. -/
def damped (mode : DampMode) (debounced : Bool) : State :=
  { running with
    globals := { running.globals with dampMode := mode },
    mute := { running.mute with debounced := debounced, latch := mode == .latch, inForce := true,
                                changeDue := debounced, previous := some false },
    channels := .of fun n =>
      { running.channel n with voice := if (running.channel n).active.enabled
          then { Voice.reset with state := .muted, damp := true } else .reset } }

/-- The same with a pending profile on string 1, its gate CLOSED. -/
def dampedPending (mode : DampMode) (debounced : Bool) : State :=
  (damped mode debounced).mod .s1 fun c => { c with pendingFlag := true }

/-- Where DAMP leaves a MUTED voice under a CLOSED gate the pending profile commits (R86, R144); one with OPEN
among its causes, and one under an open gate, are left with theirs. -/
theorem witness_DampRemoved :
    let c := (dampedPending .latch false).channel .s1
    Invariant (holding 0x0b [] (dampedPending .latch false))
      ∧ Invariant (dampedPending .follow true)
      ∧ c.active.enabled = true ∧ c.voice.openCause = false ∧ c.detector.gate = .closed
      ∧ c.pendingFlag = true ∧ ((damped .latch false).channel .s1).pendingFlag = false
      ∧ ((damped .latch false).channel .s7).active.enabled = false :=
  ⟨sound_of_check (by decide +kernel), sound_of_check (by decide +kernel), by decide +kernel⟩

/-- The pin asserted and settled under OFF, with no mute in force. -/
def ignored : State :=
  { running with globals := { running.globals with dampMode := .off },
                 mute := { running.mute with debounced := true } }

/-- The record of the default settings under this damp mode. -/
def modeRecord (mode : DampMode) : List Byte := { defaultGlobals with dampMode := mode }.bytes

theorem witness_SetGlobalReplacesTheSettings :
    let bad := { defaultGlobals with highWater := 7 }.bytes
    (∀ mode, (modeRecord mode).length = 6 ∧ firstFailing (globalChecks (modeRecord mode)) = none
        ∧ (globalsOf (modeRecord mode)).dampMode = mode)
      ∧ firstFailing (globalChecks bad) = some 5
      ∧ Awaits (holding 0x06 (modeRecord .latch) running) 0x06 (modeRecord .latch) []
      ∧ running.globals.dampMode = .follow
      ∧ Invariant (holding 0x06 (modeRecord .follow) ignored) ∧ ignored.mute.inForce = false
      ∧ Invariant (holding 0x06 (modeRecord .off) (damped .follow true))
      ∧ (damped .follow true).mute.inForce = true :=
  ⟨fun mode => by cases mode <;> decide +kernel, by decide +kernel, (running_awaits _ _).1, rfl,
    sound_of_check (by decide +kernel), rfl, sound_of_check (by decide +kernel), rfl⟩

/-! ## Witnesses: conditions, events, notes, the damp mute -/

theorem witness_ClearConditionsClears :
    Awaits (holding 0x08 [7, 1, 8] running) 0x08 [7, 1, 8] [] ∧ ¬7 < (7 : Byte).toNat
      ∧ 7 < (8 : Byte).toNat ∧ (∀ b ∈ ([1, 8] : List Byte), (Str.ofNumber b.toNat).isSome = true)
      ∧ (∃ b ∈ ([1, 9] : List Byte), Str.ofNumber b.toNat = none) :=
  ⟨(running_awaits _ _).1, by decide, by decide, by decide, by decide⟩

theorem witness_EventsLockAndRestart :
    (∀ value : Byte, Awaits (holding 0x09 [value] running) 0x09 [value] [])
      ∧ Awaits (holding 0x0c [] running) 0x0c [] [] ∧ Awaits (holding 0x0f [] running) 0x0f [] []
      ∧ Awaits (holding 0x0f [] locked) 0x0f [] [] ∧ locked.lock = true ∧ running.lock = false :=
  ⟨fun _ => (running_awaits _ _).1, (running_awaits _ _).1, (running_awaits _ _).1,
    holding_awaits _ _ rfl rfl rfl, rfl, rfl⟩

theorem witness_FlushEndsEveryNote :
    ChannelLaw (holding 0x0a [] (voiced sounding))
      ∧ Awaits (holding 0x0a [] (voiced sounding)) 0x0a [] []
      ∧ ((voiced sounding).channel .s1).voice.state = .sounding
      ∧ ((voiced sounding).channel .s2).voice.state = .quiet :=
  ⟨fun n => lawful_channel_of_check (by cases n <;> decide +kernel), holding_awaits _ _ rfl rfl rfl,
    by decide +kernel, by decide +kernel⟩

theorem witness_ReleaseDampEndsALatchedMute :
    Invariant (holding 0x0b [] (damped .latch false))
      ∧ Awaits (holding 0x0b [] (damped .latch false)) 0x0b [] []
      ∧ (damped .latch false).mute.latch = true ∧ (damped .latch true).mute.debounced = true
      ∧ running.globals.dampMode ≠ .latch :=
  ⟨sound_of_check (by decide +kernel), holding_awaits _ _ rfl rfl rfl, rfl, rfl,
    nofun⟩

/-- A running part whose pin has just settled asserted, under this damp mode. -/
def pressed (mode : DampMode) : State :=
  { running with globals := { running.globals with dampMode := mode },
                 mute := { running.mute with changeDue := true, previous := some true } }

theorem witness_DampLevelChanges :
    (∀ mode, Invariant (pressed mode) ∧ (pressed mode).mute.changeDue = true
        ∧ (pressed mode).mute.debounced = false ∧ (pressed mode).mute.inForce = false)
      ∧ (let again : State := { damped .latch false with
            mute := { (damped .latch false).mute with changeDue := true } }
        Invariant again ∧ again.mute.changeDue = true ∧ again.mute.debounced = false
          ∧ again.mute.inForce = true)
      ∧ Invariant (damped .follow true) ∧ (damped .follow true).mute.changeDue = true
      ∧ (damped .follow true).mute.debounced = true ∧ running.mute.changeDue = false :=
  ⟨fun mode => ⟨sound_of_check (by cases mode <;> decide +kernel), rfl, rfl, rfl⟩,
    ⟨sound_of_check (by decide +kernel), rfl, rfl, rfl⟩, sound_of_check (by decide +kernel), rfl, rfl, rfl⟩

/-! ## Witnesses: modes and the link -/

/-- A running part whose idle timer has just run out. -/
def idle : State := { running with modes := { running.modes with idle := 4096, idleDue := true } }

/-- A part with this many notices queued and BACKLOG active. -/
def crowded (count : Nat) (s : State) : State :=
  { s with queue := { s.queue with records := List.replicate count (.notice .dozing) },
           backlog := ⟨true, true, false⟩ }

theorem witness_DozeIsEntered :
    (let fixing := voiced { sounding with startKind := some .provisional, fix := true }
      ∀ s ∈ [running, staged1, muted1, struck, disabling staged1, crowded 32 running,
          crowded 30 fixing],
        Invariant (holding 0x0d [0] s) ∧ s.modes.mode = .run)
      ∧ ((crowded 32 running).hasRoom 1 = false ∧ ∀ n, (running.channel n).voice.fix = false)
      ∧ (let s := crowded 30 (voiced { sounding with startKind := some .provisional, fix := true })
        s.hasRoom 1 = false ∧ (s.channel .s1).voice.fix = true)
      ∧ Awaits (holding 0x0d [0] running) 0x0d [0] []
      ∧ Awaits (holding 0x0d [0] dozing) 0x0d [0] [] ∧ dozing.modes.mode = .doze
      ∧ Awaits (holding 0x0d [2] running) 0x0d [2] [] ∧ Invariant idle ∧ idle.modes.idleDue = true
      ∧ idle.modes.mode = .run ∧ running.modes.idleDue = false := by
  refine ⟨?_, ⟨by decide +kernel, fun n => by cases n <;> rfl⟩, by decide +kernel,
    (running_awaits _ _).1, holding_awaits _ _ rfl rfl rfl, rfl, (running_awaits _ _).1,
    sound_of_check (by decide +kernel), rfl, rfl, rfl⟩
  simp only [List.forall_mem_cons, List.not_mem_nil, false_imp_iff, implies_true, and_true]
  refine ⟨?_, ?_, ?_, ?_, ?_, ?_, ?_⟩ <;> exact ⟨sound_of_check (by decide +kernel), rfl⟩

theorem witness_WakeReturnsToRun :
    Awaits (holding 0x0d [1] dozing) 0x0d [1] [] ∧ dozing.modes.mode = .doze
      ∧ Awaits (holding 0x0d [1] running) 0x0d [1] [] ∧ running.modes.mode = .run
      ∧ Awaits (holding 0x0d [0xff] running) 0x0d [0xff] [] :=
  ⟨holding_awaits _ _ rfl rfl rfl, rfl, (running_awaits _ _).1, rfl, (running_awaits _ _).1⟩

/-- The part at a frame end in DOZE with this envelope on string 2. -/
def plucked (envelope : Nat) : State :=
  { dozing with modes := { dozing.modes with wakeDue := true } }.mod .s2 fun c =>
    { c with lane := { c.lane with envelope := envelope } }

/-- Strings 2 and 1 wake, string 1 with an entry for string 2 at equal envelopes, string 3 MUTED by OPEN. -/
def pluckedThree (own : Nat) : State :=
  ((plucked 800).mod .s1 fun c =>
    { c with active := { c.active with associations := [⟨.s2, 16⟩] },
             staged := { c.staged with associations := [⟨.s2, 16⟩] },
             lane := { c.lane with envelope := own } }).mod .s3 fun c =>
    { c with voice := { Voice.reset with state := .muted, openCause := true },
             openMarks := ⟨true, true, false⟩, lane := { c.lane with envelope := 500 } }

/-- String 2 taken before string 1. -/
def secondFirst : List Str := [.s2, .s1]

theorem witness_StringsWakeThePart :
    (Invariant (plucked 400) ∧ (plucked 400).modes.mode = .doze
        ∧ (plucked 400).modes.wakeDue = true ∧ Waking (plucked 400) .s2
        ∧ (∀ n, Waking (plucked 400) n → Str.s2.number ≤ n.number)
        ∧ ∀ n, ¬Waking (plucked 399) n)
      ∧ ∀ own, own = 800 ∨ own = 799 →
        let s := pluckedThree own
        Invariant s ∧ Waking s .s1 ∧ Waking s .s2 ∧ Waking s .s3
          ∧ (s.channel .s3).voice.state = .muted ∧ (s.channel .s1).voice.state = .quiet
          ∧ ∃ t, exec (.wakeByString secondFirst) s = .next t
            ∧ (WakePasses secondFirst .s1 s t ↔ own = 800) ∧ WakePasses secondFirst .s2 s t := by
  unfold Waking WakePasses
  refine ⟨⟨sound_of_check (by decide +kernel), rfl, rfl, by decide +kernel,
    fun n => by cases n <;> decide +kernel, fun n => by cases n <;> decide +kernel⟩, ?_⟩
  rintro own (rfl | rfl) <;>
    exact ⟨sound_of_check (by decide +kernel), by decide +kernel, by decide +kernel,
      by decide +kernel, by decide +kernel, by decide +kernel, _, rfl, by decide +kernel,
      by decide +kernel⟩

/-- A receiver in a state. -/
def receiving (st : RxState) (length : Nat) (body : List Byte) (timer : Nat) : State :=
  { running with link := { running.link with rxState := st, rxLength := length, rxBody := body,
                                             rxTimer := timer } }

theorem witness_ReceiverTable :
    (receiving .hunt 0 [] 0).link.rxState = .hunt ∧ (receiving .length 0 [] 0).link.rxState = .length
      ∧ 1 ≤ (1 : Byte).toNat ∧ (48 : Byte).toNat ≤ 48 ∧ (0 : Byte).toNat = 0
      ∧ 48 < (49 : Byte).toNat ∧ (receiving .body 1 [] 0).link.rxState = .body
      ∧ (receiving .check 1 [0x02] 0).link.rxState = .check
      ∧ (receiving .check 1 [0x02] 0).link.rxBody = 0x02 :: []
      ∧ (0x1b : Byte) = crc8 (byte 1 :: [0x02]) ∧ (0x1c : Byte) ≠ crc8 (byte 1 :: [0x02]) :=
  ⟨rfl, rfl, by decide, by decide, by decide, by decide, rfl, rfl, rfl, by decide +kernel,
    by decide +kernel⟩

theorem witness_TimeoutAndFrameEnd :
    (receiving .length 0 [] 9).link.rxState ≠ .hunt ∧ 9 ≤ (receiving .length 0 [] 9).link.rxTimer
      ∧ (receiving .body 1 [] 8).link.rxTimer < 9
      ∧ (restarting .none (.sending [1] false)).link.tx = .sending [1] false
      ∧ (restarting .due (.sending [1] true)).link.tx = .sending [1] true
      ∧ running.link.tx = .idle :=
  ⟨nofun, by decide, by decide, rfl, rfl, rfl⟩

theorem witness_TransmitterTakes :
    let queued : State := { running with queue := { Queue.reset with records := [.notice .dozing] } }
    let replying := reply 0x02 .taken [] running
    (restarting .replySent .idle).modes.restart = .replySent
      ∧ running.modes.restart ≠ .replySent ∧ queued.link.tx = .idle ∧ queued.link.slot = none
      ∧ queued.queue.gateOpen = true ∧ queued.queue.records = .notice .dozing :: []
      ∧ replying.link.tx = .idle ∧ replying.link.slot.isSome = true
      ∧ (restarting .none (.sending [1] false)).link.tx ≠ .idle ∧ running.queue.records = [] :=
  ⟨rfl, nofun, rfl, rfl, rfl, rfl, rfl, rfl, nofun, rfl⟩

/-- The part with this many notices queued and BACKLOG's markers, under the high-water setting 28. -/
def backlogged (count : Nat) (b : Markers) (mask : Bool) : State :=
  { running with
    queue := { Queue.reset with records := List.replicate count (.notice .dozing) }, backlog := b,
    globals := { running.globals with reportMask := ⟨true, true, mask⟩ } }

/-- The worked cases of R155 and R153 at the high-water setting: a removal whose own "no" record brings BACKLOG
back, the next removal, one with the mask off, and admissions that latch with room, without, and unmasked. -/
theorem test_backlog_reports :
    let removed (s : State) : State := transmitTake s
    let admitted (s : State) : State := offerPlain (.notice .dampOn) s
    let shown (s : State) : Nat × Markers × Bool := (s.queue.records.length, s.backlog, s.queue.dropped)
    shown (removed (backlogged 28 ⟨true, true, true⟩ true)) = (28, ⟨true, true, false⟩, false)
      ∧ shown (removed (backlogged 28 ⟨true, true, false⟩ true)) = (27, ⟨false, true, false⟩, false)
      ∧ shown (removed (backlogged 28 ⟨true, true, true⟩ false)) = (27, ⟨false, true, false⟩, false)
      ∧ shown (admitted (backlogged 27 .clear true)) = (29, ⟨true, true, true⟩, false)
      ∧ shown (admitted (backlogged 27 ⟨false, true, false⟩ true)) = (28, ⟨true, true, false⟩, false)
      ∧ shown (admitted (backlogged 27 .clear false)) = (28, ⟨true, true, false⟩, false)
      ∧ shown (offerNoteOn .s5 45 80 0 .provisional
          { backlogged 29 .clear true with globals := { running.globals with highWater := 31 } })
        = (30, ⟨true, true, false⟩, true) := by decide +kernel

/-! ## Witnesses: samples, frames, crossings -/

/-- At the limits of the scaled signal for gain code 0, and with a frame end that was left out. -/
theorem witness_SampleIsTaken :
    (ConditionLaw running ∧ (settle running).hasRoom (8 + 1) = true) ∧
    let unit : State := with1 fun c => { c with active := { c.active with gainCode := 0 } }
    let raw (signal : Int) : Option Int :=
      match exec (.sample ⟨signal, 0, 0, 0, 0, 0, 0, 0⟩ []) unit with
      | .next t => some (t.channel .s1).lane.frame.sum
      | .fault _ | .refused _ => none
    let due : State := { running with frameSamples := 8 }
    (unit.channel .s1).active.gainCode = 0 ∧ unit.modes.resetPinLow = false
      ∧ raw (128 * 2047) = some 2047 ∧ raw (128 * 2048) = some 2047
      ∧ raw (128 * (-2048)) = some (-2048) ∧ raw (128 * (-2049)) = some (-2048)
      ∧ raw (128 * 5) = some 5 ∧ due.modes.resetPinLow = false
      ∧ (settle due).frameSamples = 0 :=
  ⟨⟨(sound_of_check (by decide +kernel)).conditions, by decide +kernel⟩, by decide +kernel⟩

/-- A sample of string 1 at its limit. -/
def limitSample (s : State) : State :=
  takeSample ⟨2000000, 0, 0, 0, 0, 0, 0, 0⟩ [] s

/-- CLIP is reported as it latches, and its end mark set, where there is room (R153). -/
theorem test_clip_is_reported :
    (limitSample running).queue.records = [.condition (.string .clip .s1) true]
      ∧ ((limitSample running).channel .s1).clip = ⟨true, true, true⟩
      ∧ (limitSample (crowded 32 running)).queue.dropped = true
      ∧ ((limitSample (crowded 32 running)).channel .s1).clip = ⟨true, true, false⟩ := by
  decide +kernel

/-- A SAMPLE makes a restart whose reply has ended, and none whose reply is still being sent (R175). -/
theorem test_restart_waits_for_its_reply :
    (settle (restarting .replySent .idle)).modes.mode = .start
      ∧ settle (restarting .due (.sending [0x7e] true))
        = restarting .due (.sending [0x7e] true) := by decide +kernel

/-- A frame end with string 1 sounding, its reporter and its line as given. -/
def reporting (interval : Nat) (fresh : Bool) (drop : Option Nat) : State :=
  { (voiced sounding).mod .s1 fun c =>
      { c with active := { c.active with glideMode := .periodic interval },
               reporter := { c.reporter with fresh := fresh },
               gateLine := { c.gateLine with drop := drop, fresh := fresh } } with
    frameSamples := 8 }

theorem witness_FrameEnds :
    let ended (s : State) : State := { s with frameSamples := 8 }
    (ended running).frameSamples = 8 ∧ (ended running).modes.mode = .run
      ∧ (ended dozing).modes.mode = .doze ∧ (ended State.reset).modes.mode = .start
      ∧ running.frameSamples ≠ 8
      ∧ (∀ fresh, ((reporting 1 fresh (some 3)).channel .s1).reporter.schedule = some 0
        ∧ ((reporting 1 fresh (some 3)).channel .s1).active.glideMode = .periodic 1
        ∧ ((reporting 1 fresh (some 3)).channel .s1).reporter.fresh = fresh
        ∧ ((reporting 1 fresh (some 3)).channel .s1).gateLine.drop = some 3
        ∧ ((reporting 2 fresh none).channel .s1).active.glideMode = .periodic 2
        ∧ (reporting 2 fresh none).frameSamples = 8)
      ∧ 1 ≤ 0 + 1 ∧ 0 + 1 < 2 := by decide +kernel

/-- String 1 with this ring, guard and age, handed a crossing at this stamp. -/
def crossed (ring : List Stamp) (guard age : Nat) (stamp : Stamp) : State := with1 fun c =>
  { c with capture := { c.capture with ring := ring, guard := guard, age := age,
                                       handed := some stamp } }

/-- At the limits of R26 for string 1, 2395 and 14357. -/
theorem witness_CrossingIsJudged :
    ((crossed [] 0 0 7).channel .s1).capture.handed = some 7
      ∧ 0 < ((crossed [] 1 0 7).channel .s1).capture.guard
      ∧ ((crossed [0] 0 256 7).channel .s1).capture.ring = [] ++ [0]
      ∧ 256 ≤ ((crossed [0] 0 256 7).channel .s1).capture.age
      ∧ ((crossed [0] 0 255 7).channel .s1).capture.age < 256
      ∧ ((2394 : Stamp) - 0).toNat < ((crossed [0] 0 0 2394).channel .s1).capture.pmin
      ∧ ((crossed [0] 0 0 2395).channel .s1).capture.pmin ≤ ((2395 : Stamp) - 0).toNat
      ∧ ((14357 : Stamp) - 0).toNat ≤ ((crossed [0] 0 0 14357).channel .s1).capture.pmax
      ∧ ((crossed [0] 0 0 14358).channel .s1).capture.pmax < ((14358 : Stamp) - 0).toNat
      ∧ ((crossed [0, 9309] 0 0 18618).channel .s1).capture.ring = [0] ++ [9309]
      ∧ attempt (running.channel .s1).active (([0] ++ [9309, 18618]).drop (1 + 2 - 16))
        = some ⟨.full, 4416⟩
      ∧ (running.channel .s1).capture.handed = none := by decide +kernel

theorem witness_EstimateIsFormed :
    edgesOf (defaultProfile .s1).edgeSpanCode = 3
      ∧ ([0, 9309, 18618] : List Stamp) = [] ++ 0 :: [9309] ++ [18618]
      ∧ ([9309] : List Stamp).length + 2 = 3 ∧ ([0, 9309] : List Stamp) = [] ++ [0, 9309]
      ∧ (∀ d ∈ intervals [0, 9309, 18618], 64 * ((2 : Int) * d - 18618).natAbs ≤ 4 * 18618)
      ∧ ¬(∀ d ∈ intervals [0, 9309, 30000], 64 * ((2 : Int) * d - 30000).natAbs ≤ 4 * 30000)
      ∧ attempt (defaultProfile .s1) [0, 9309, 18618] = some ⟨.full, 4416⟩
      ∧ attempt (defaultProfile .s1) [0, 9309] = some ⟨.provisional, 4416⟩ := by decide +kernel

/-! ## Witnesses: notes -/

/-- String 1 with this voice, delivered this estimate. -/
def estimated (v : Voice) (e : Estimate) : State := (voiced v).mod .s1 fun c =>
  { c with capture := { c.capture with delivered := some e } }

theorem witness_EstimateWithoutNote :
    ((estimated acquiring ⟨.full, 3072⟩).channel .s1).capture.delivered = some ⟨.full, 3072⟩
      ∧ acquiring.state = .acquiring ∧ acquiring.velocity = none
      ∧ (running.channel .s1).capture.delivered = none
      ∧ (running.channel .s1).voice.state = .quiet := by decide +kernel

theorem witness_NoteBeginsOnEstimate :
    let v := { acquiring with velocity := some 90 }
    let s (e : Estimate) : State := estimated v e
    v.Lawful ∧ ∀ kind, ((s ⟨kind, 3100⟩).channel .s1).voice = v
      ∧ ((s ⟨kind, 3100⟩).channel .s1).capture.delivered = some ⟨kind, 3100⟩
      ∧ (s ⟨kind, 3100⟩).modes.resetPinLow = false ∧ v.state = .acquiring
      ∧ v.velocity = some 90 ∧ v.startKind ≠ some .normal
      ∧ ((s ⟨kind, 3100⟩).channel .s1).active.startPolicy = .fast :=
  ⟨lawful_of_check (by decide +kernel), fun kind => ⟨by cases kind <;> decide +kernel,
    by cases kind <;> decide +kernel, rfl, rfl, rfl, nofun, rfl⟩⟩

/-- String 1 with this voice and a completed velocity. -/
def completed (v : Voice) : State := (voiced v).mod .s1 fun c =>
  { c with detector := { c.detector with completion := some 90 } }

theorem witness_VelocityIsTaken :
    let pitched := { acquiring with currentPitch := some 3072, startKind := some .normal }
    let expired := { acquiring with acqExpired := true, startKind := some .unpitched }
    acquiring.Lawful ∧ pitched.Lawful ∧ expired.Lawful ∧ sounding.Lawful
      ∧ ((completed pitched).channel .s1).detector.completion = some 90
      ∧ ((completed pitched).channel .s1).voice.currentPitch = some 3072
      ∧ ((completed expired).channel .s1).voice.acqExpired = true
      ∧ (running.channel .s1).detector.completion = none :=
  ⟨lawful_of_check (by decide), lawful_of_check (by decide), lawful_of_check (by decide),
    lawful_of_check (by decide), by decide +kernel⟩

theorem witness_StartIsSettled :
    let provisional := { sounding with startKind := some .provisional, fix := true }
    let unpitched := { sounding with startKind := some .unpitched, currentPitch := none, fix := true }
    let reported := (estimated provisional ⟨.full, 3103⟩).mod .s1 fun c =>
      { c with active := { c.active with glideMode := .onEstimate } }
    provisional.Lawful ∧ unpitched.Lawful
      ∧ ((estimated provisional ⟨.full, 3103⟩).channel .s1).voice = provisional
      ∧ ((estimated unpitched ⟨.full, 3103⟩).channel .s1).voice = unpitched
      ∧ ((estimated provisional ⟨.full, 3103⟩).channel .s1).capture.delivered = some ⟨.full, 3103⟩
      ∧ provisional.state = .sounding ∧ provisional.startKind ≠ some .normal
      ∧ unpitched.startKind ≠ some .normal ∧ provisional.baseNote = some 48
      ∧ (3103 + 32) / 64 = 48 ∧ (3104 + 32) / 64 ≠ 48
      ∧ (reported.channel .s1).active.glideMode = .onEstimate
      ∧ (reported.channel .s1).capture.delivered = some ⟨.full, 3103⟩ :=
  ⟨lawful_of_check (by decide), lawful_of_check (by decide), by decide +kernel⟩

/-- The hypotheses that the statements about a note in force share: string 1 sounds on note 48 at pitch
3072, started NORMAL, and is delivered this full estimate. -/
abbrev SoundsAndTakes (pitch : Nat) (s : State) : Prop :=
  s.modes.resetPinLow = false ∧ (s.channel .s1).capture.delivered = some ⟨.full, pitch⟩
    ∧ (s.channel .s1).voice.state = .sounding ∧ (s.channel .s1).voice.startKind = some .normal
    ∧ (s.channel .s1).voice.baseNote = some 48 ∧ (s.channel .s1).voice.currentPitch = some 3072

/-- String 1 sounding under this legato policy, delivered a full estimate. -/
def legato (policy : LegatoPolicy) (candidate : Option Candidate) (pitch : Nat) : State :=
  (estimated { sounding with candidate := candidate } ⟨.full, pitch⟩).mod .s1 fun c =>
    { c with active := { c.active with legatoPolicy := policy } }

theorem witness_EstimateKeepsNote :
    ((legato .step none 3111).channel .s1).active.legatoPolicy = .step
      ∧ ((legato .step none 3111).channel .s1).active.stepThreshold = 40
      ∧ ((3111 : Int) - 64 * 48).natAbs < 40 ∧ ((3328 : Int) - 64 * 48).natAbs ≤ 64 * 4
      ∧ ((legato .glide none 3328).channel .s1).active.bendRange = 4
      ∧ ((legato .glide none 3328).channel .s1).voice.baseNote = some 48
      ∧ ((legato .split none 3111).channel .s1).active.legatoPolicy = .split
      ∧ SoundsAndTakes 3111 (legato .step none 3111)
      ∧ SoundsAndTakes 3328 (legato .glide none 3328)
      ∧ SoundsAndTakes 3111 (legato .split none 3111) := by decide +kernel

theorem witness_CandidateIsHeld :
    40 ≤ ((3112 : Int) - 3072).natAbs
      ∧ ((legato .split none 3112).channel .s1).active.stepThreshold = 40
      ∧ (1 : Nat) < ((legato .split none 3112).channel .s1).active.stepHold
      ∧ ((legato .split (some ⟨3112, 1⟩) 3112).channel .s1).voice.candidate = some ⟨3112, 1⟩
      ∧ ((3112 : Int) - 3176).natAbs ≤ 16 * 4 ∧ 16 * 4 < ((3112 : Int) - 3177).natAbs
      ∧ ((legato .split none 3112).channel .s1).active.stepHold ≤ 1 + 1
      ∧ (3032 + 32) / 64 = 47 ∧ (3103 + 32) / 64 = 48
      ∧ 1 ≤ ((legato .split none 3112).channel .s1).active.bendRange
      ∧ SoundsAndTakes 3112 (legato .split none 3112)
      ∧ SoundsAndTakes 3112 (legato .step (some ⟨3112, 1⟩) 3112) := by decide +kernel

/-- The candidates of the statements about one: a first one, one counted again, and one replaced. -/
theorem witness_NextCandidate :
    NextCandidate ((legato .split none 3112).channel .s1) 3112 ⟨3112, 1⟩
      ∧ NextCandidate ((legato .split (some ⟨3176, 1⟩) 3112).channel .s1) 3112 ⟨3176, 2⟩
      ∧ NextCandidate ((legato .split (some ⟨3177, 1⟩) 3112).channel .s1) 3112 ⟨3112, 1⟩ :=
  ⟨.inr ⟨rfl, nofun⟩, .inl ⟨⟨3176, 1⟩, by decide +kernel⟩,
    .inr ⟨rfl, fun _ h => by cases h; decide +kernel⟩⟩

/-- String 1's step hold is 1. -/
def holdOne (s : State) : State :=
  s.mod .s1 fun c => { c with active := { c.active with stepHold := 1 } }

theorem witness_LegatoStepIsMade :
    let s := legato .split (some ⟨3200, 1⟩) 3200
    let first := holdOne (legato .step none 3200)
    let full := { s with queue := { s.queue with records := List.replicate 30 (.notice .dozing) },
                         backlog := ⟨true, true, true⟩ }
    ∀ u ∈ [s, first, full], (u.channel .s1).voice.Lawful ∧ BacklogLaw u ∧ 1 ≤ u.queue.reserved
      ∧ SoundsAndTakes 3200 u ∧ (u.channel .s1).voice.velocity = some 100
      ∧ (u.channel .s1).voice.fix = false ∧ 40 ≤ ((3200 : Int) - 3072).natAbs
      ∧ (u.channel .s1).active.stepThreshold = 40 ∧ (3200 + 32) / 64 ≠ 48
      ∧ (u.hasRoom 2 = true ↔ u.queue.records = [])
      ∧ ∃ next, NextCandidate (u.channel .s1) 3200 next
        ∧ (u.channel .s1).active.stepHold ≤ next.count := by
  simp only [List.forall_mem_cons, List.not_mem_nil, false_imp_iff, implies_true, and_true]
  unfold BacklogLaw
  refine ⟨?_, ?_, ?_⟩ <;>
    refine ⟨lawful_of_check (by decide +kernel), by decide +kernel, by decide +kernel,
      by decide +kernel, by decide +kernel, by decide +kernel, by decide, by decide +kernel,
      by decide, by decide +kernel, ?_⟩
  · exact ⟨_, .inl ⟨⟨3200, 1⟩, rfl, by decide +kernel, rfl⟩, by decide +kernel⟩
  · exact ⟨⟨3200, 1⟩, .inr ⟨rfl, nofun⟩, by decide +kernel⟩
  · exact ⟨_, .inl ⟨⟨3200, 1⟩, rfl, by decide +kernel, rfl⟩, by decide +kernel⟩

/-- A rebase with these records queued before it: room for its three, a GLIDE of the string that its closing
report merges into, one behind which a note record of the string stands, and no room. -/
theorem witness_RebaseIsMade :
    let s := legato .glide none 3329
    let queued (rs : List Record) (backlog : Markers) : State :=
      { s with queue := { s.queue with records := rs }, backlog := backlog }
    (∀ u ∈ [s, queued [.glide .s1 5 7] .clear,
          queued [.glide .s1 4 7, .noteOn .s1 5 48 100 0 .none] .clear,
          queued (List.replicate 31 (.notice .dozing)) ⟨true, true, true⟩],
        (u.channel .s1).voice.Lawful ∧ BacklogLaw u ∧ 1 ≤ u.queue.reserved
        ∧ (u.channel .s1).voice.fix = false ∧ (u.channel .s1).voice.reported = true
        ∧ SoundsAndTakes 3329 u ∧ (u.channel .s1).voice.velocity = some 100
        ∧ (u.channel .s1).active.legatoPolicy = .glide)
      ∧ 64 * 4 < ((3329 : Int) - 64 * 48).natAbs
      ∧ (s.channel .s1).active.deadband
        ≤ ((64 * 4 : Int) - (s.channel .s1).reporter.lastReported.getD 0).natAbs := by
  refine ⟨?_, by decide, by decide +kernel⟩
  simp only [List.forall_mem_cons, List.not_mem_nil, false_imp_iff, implies_true, and_true]
  unfold BacklogLaw
  refine ⟨?_, ?_, ?_, ?_⟩ <;> exact ⟨lawful_of_check (by decide +kernel), by decide +kernel⟩

/-! ## Witnesses: conditions -/

/-- String 1 with these counts and markers. -/
def conditioned (quiet hold release : Nat) (clip openMarks : Markers) (v : Voice) : State :=
  with1 fun c => { c with voice := v, clip := clip, openMarks := openMarks,
                          lane := { c.lane with clipQuiet := quiet, openHold := hold,
                                                openRelease := release } }

theorem witness_ClipEnds :
    let s := conditioned 128 0 0 ⟨true, true, true⟩ .clear .reset
    (s.channel .s1).clip.active = true ∧ (s.channel .s1).lane.clipQuiet = 128
      ∧ (s.channel .s1).clip.endMark = true ∧ s.globals.reportMask.clip = true
      ∧ (running.channel .s1).clip.active = false
      ∧ ((conditioned 127 0 0 ⟨true, true, true⟩ .clear .reset).channel .s1).lane.clipQuiet ≠ 128 := by
  decide +kernel

theorem witness_OpenMutesTheVoice :
    let s := conditioned 0 256 0 .clear .clear .reset
    (s.channel .s1).Lawful ∧ (s.channel .s1).lane.openHold = 256
      ∧ (s.channel .s1).openMarks.active = false ∧ (s.channel .s1).openMarks.endMark = false
      ∧ ((conditioned 0 255 0 .clear .clear .reset).channel .s1).lane.openHold ≠ 256 :=
  ⟨lawful_channel_of_check (by decide +kernel), by decide +kernel⟩

/-- String 1 as its OPEN mute is to end, the end to be reported. -/
def opening : State :=
  conditioned 0 0 256 .clear ⟨true, true, true⟩ { Voice.reset with state := .muted, openCause := true }

/-- The same with a pending profile that disables the string. -/
def openingDisabled : State :=
  disabling (opening.mod .s1 fun c => { c with pendingFlag := true })

theorem witness_OpenEndUnmutes :
    (opening.channel .s1).Lawful ∧ (openingDisabled.channel .s1).Lawful
      ∧ (opening.channel .s1).lane.openRelease = 256
      ∧ (openingDisabled.channel .s1).lane.openRelease = 256
      ∧ (opening.channel .s1).openMarks.active = true
      ∧ (openingDisabled.channel .s1).openMarks.active = true
      ∧ (opening.channel .s1).voice.damp = false
      ∧ (opening.channel .s1).detector.gate = .closed
      ∧ (opening.channel .s1).pendingFlag = false
      ∧ (openingDisabled.channel .s1).pendingFlag = true
      ∧ (openingDisabled.channel .s1).staged.enabled = false :=
  ⟨lawful_channel_of_check (by decide +kernel), lawful_channel_of_check (by decide +kernel),
    by decide +kernel⟩

/-! ## Witnesses: articulation -/

/-- String 1 with a judgement due on this envelope, under this gate. -/
def judged (gate : Gate) (wait : Bool) (dip envelope : Nat) (v : Voice) : State := with1 fun c =>
  { c with voice := v, lane := { c.lane with envelope := envelope },
           detector := { c.detector with gate := gate, rearmWait := wait, dipTimer := dip,
                                         judgementDue := true } }

/-- What a judgement finds, read from the detector after its first two steps. -/
def found (s : State) : Verdict :=
  { s.channel .s1 with detector := (s.channel .s1).detector.tick : Channel }.verdict

/-- The thresholds of R43 to R52 for the default profile: on 160, off 96, dip 4 to 40, hold 256. -/
theorem test_verdicts_at_the_boundaries :
    (found (judged .closed false 0 159 .reset), found (judged .closed false 0 160 .reset),
      found (judged .closed true 0 95 .reset), found (judged .closed true 0 96 .reset))
      = (.stays, .onset, .clearsWait, .stays)
    ∧ (found (judged .opened false 0 95 .reset), found (judged .opened false 0 96 .reset))
      = (.entersDip, .stays)
    ∧ (found (judged .dip false 2 160 .reset), found (judged .dip false 3 160 .reset),
        found (judged .dip false 39 160 .reset), found (judged .dip false 40 160 .reset))
      = (.flutter, .restrike, .restrike, .releaseOnset)
    ∧ (found (judged .dip false 254 159 .reset), found (judged .dip false 255 159 .reset))
      = (.stays, .release) := by decide +kernel

theorem witness_JudgementMakesAnOnset :
    let s := judged .closed false 0 160 .reset
    (s.channel .s1).voice.Lawful ∧ (s.channel .s1).detector.judgementDue = true
      ∧ (s.channel .s1).detector.gate = .closed ∧ (s.channel .s1).detector.rearmWait = false
      ∧ (s.channel .s1).active.onThreshold ≤ (s.channel .s1).lane.envelope
      ∧ (s.channel .s1).voice.state = .quiet ∧ bleedPasses s .s1 = true :=
  ⟨lawful_of_check (by decide +kernel), by decide +kernel⟩

theorem witness_JudgementMakesNoArrival :
    let c (s : State) : Channel := s.channel .s1
    (c (judged .closed true 0 95 .reset)).active.offThreshold = 96
      ∧ (c (judged .dip false 2 160 .reset)).detector.dipTimer + 1
        < (c (judged .dip false 2 160 .reset)).active.dipMin
      ∧ (c (judged .dip false 254 159 .reset)).detector.dipTimer + 1
        < 4 * 2 ^ (c (judged .dip false 254 159 .reset)).active.releaseHoldCode
      ∧ ¬(c (judged .opened false 0 96 .reset)).active.surgeWindow
          ≤ (c (judged .opened false 0 96 .reset)).detector.floor.length
      ∧ (c running).detector.judgementDue = false := by decide +kernel

theorem witness_JudgementMakesARestrike :
    let s := judged .dip false 3 160 sounding
    let surged := s.mod .s1 fun c => { c with detector := { c.detector with
      gate := .opened, dipTimer := 0, floor := List.replicate 8 64 } }
    (s.channel .s1).voice.Lawful ∧ (s.channel .s1).voice.state = .sounding
      ∧ ((s.channel .s1).detector.judgementDue = true ∧ (s.channel .s1).detector.gate = .dip
        ∧ (s.channel .s1).active.onThreshold ≤ (s.channel .s1).lane.envelope)
      ∧ (surged.channel .s1).detector.gate = .opened
      ∧ (surged.channel .s1).active.offThreshold ≤ (surged.channel .s1).lane.envelope
      ∧ (s.channel .s1).active.dipMin ≤ 3 + 1
      ∧ 39 + 1 ≤ (s.channel .s1).active.dipMax ∧ Surges (surged.channel .s1)
      ∧ bleedPasses s .s1 = true :=
  ⟨lawful_of_check (by decide +kernel), by unfold Surges; decide +kernel⟩

/-- A dip that has lasted too long, ended by an envelope at the on threshold. -/
def tooLate (v : Voice) : State := judged .dip false 40 160 v

theorem witness_JudgementMakesARelease :
    let s := judged .dip false 255 159 sounding
    let late := tooLate sounding
    let pending := late.mod .s1 fun c => { c with pendingFlag := true }
    let muted := { Voice.reset with state := .muted, openCause := true }
    sounding.Lawful ∧ muted.Lawful
      ∧ ((s.channel .s1).voice = sounding ∧ (late.channel .s1).voice = sounding
        ∧ ((tooLate muted).channel .s1).voice = muted)
      ∧ ((s.channel .s1).lane.envelope < (s.channel .s1).active.onThreshold
        ∧ 4 * 2 ^ (s.channel .s1).active.releaseHoldCode ≤ (s.channel .s1).detector.dipTimer + 1)
      ∧ ((late.channel .s1).active.dipMax < (late.channel .s1).detector.dipTimer + 1
        ∧ (late.channel .s1).active.dipMin ≤ (late.channel .s1).detector.dipTimer + 1
        ∧ (late.channel .s1).active.onThreshold ≤ (late.channel .s1).lane.envelope
        ∧ (late.channel .s1).active.enabled = true ∧ (late.channel .s1).pendingFlag = false)
      ∧ ((judged .dip false 255 160 sounding).channel .s1).detector.dipTimer + 1
        = 4 * 2 ^ (s.channel .s1).active.releaseHoldCode
      ∧ ((pending.channel .s1).pendingFlag = true
        ∧ ((disabling pending).channel .s1).staged.enabled = false
        ∧ ∀ a ∈ (pending.channel .s1).staged.associations, a.source ≠ .s1)
      ∧ (s.channel .s1).detector.judgementDue = true ∧ (s.channel .s1).detector.gate = .dip
      ∧ (s.channel .s1).pendingFlag = false :=
  ⟨lawful_of_check (by decide), lawful_of_check (by decide), by decide +kernel⟩

/-- A late strike whose RELEASE commits a profile with a velocity window of 1 and another reference: the window
is the new profile's, the reference that of the judgement (R51, R56). -/
theorem test_late_strike_keeps_the_reference :
    let s := (tooLate sounding).mod .s1 fun c =>
      { c with pendingFlag := true,
               active := { c.active with velocityReference := 160 },
               staged := { c.staged with velocityWindow := 1, velocityReference := 640 } }
    let d := ((judge .s1 s).channel .s1).detector
    ((judge .s1 s).channel .s1).active.velocityReference = 640
      ∧ (d.phase, d.remaining, d.completion) = (.complete, 0, some 127) := by decide +kernel

/-! ## Witnesses: bleed and timers -/

/-- String 1 in suspicion of string 2, whose voice sounds at this envelope. -/
def suspected (v : Voice) (timer own source : Nat) : State :=
  (with1 fun c =>
    { c with voice := v, bleed := ⟨some timer, true⟩, lane := { c.lane with envelope := own },
             active := { c.active with associations := [⟨.s2, 16⟩] } }).mod .s2 fun c =>
    { c with voice := sounding, lane := { c.lane with envelope := source } }

/-- A suspicion holding an estimate. -/
def suspect : Voice := { Voice.reset with state := .suspect, held := some ⟨.full, 3072⟩ }

/-- The same suspicion with velocity, the release hold of its dip reached at this frame end. -/
def suspectedRelease : State :=
  (suspected { suspect with velocity := some 70 } 0 90 0).mod .s1 fun c =>
    { c with detector := { c.detector with gate := .dip, dipTimer := 255, judgementDue := true } }

/-- The same with an open gate, at a surge but for CLIP, whose end is due at this frame end. -/
def suspectedSurge : State :=
  (suspected { suspect with velocity := some 70 } 0 400 0).mod .s1 fun c =>
    { c with detector := { c.detector with gate := .opened, floor := List.replicate 8 64,
                                           judgementDue := true },
             clip := ⟨true, true, false⟩, lane := { c.lane with clipQuiet := 128 } }

theorem witness_SuspicionIsStepped :
    (suspect.Lawful ∧ { suspect with velocity := some 70 }.Lawful)
      ∧ (bleedPasses (suspected suspect 0 200 200) .s1 = true
        ∧ bleedPasses (suspected suspect 0 199 200) .s1 = false)
      ∧ (((suspected suspect 11 0 200).channel .s1).active.bleedWindow ≤ 11 + 1
        ∧ 10 + 1 < ((suspected suspect 10 0 200).channel .s1).active.bleedWindow)
      ∧ (let c := (suspected suspect 11 0 200).channel .s1
        c.voice.state = .suspect ∧ c.bleed.stepDue = true ∧ c.bleed.timer = some 11
          ∧ c.voice.held = some ⟨.full, 3072⟩ ∧ 1 ≤ c.active.surgeWindow
          ∧ c.detector.judgementDue = false)
      ∧ (ArrivalMayCome (suspectedRelease.channel .s1)
        ∧ ArrivalMayCome (suspectedSurge.channel .s1) ∧ ¬Surges (suspectedSurge.channel .s1)
        ∧ bleedPasses suspectedRelease .s1 = true
        ∧ (suspectedRelease.channel .s1).voice.velocity = some 70)
      ∧ (running.channel .s1).voice.state ≠ .suspect := by
  refine ⟨⟨lawful_of_check (by decide), lawful_of_check (by decide)⟩, ?_⟩
  unfold ArrivalMayCome Surges
  decide +kernel

/-- A step that would begin a note waits for the judgement: the RELEASE of the same frame end leaves QUIET with
nothing offered (R105), a surge that a CLIP end lets come finds it before its note,
and a judgement that finds no surge lets the note begin in the step (R67, R70). -/
theorem test_step_waits_for_the_judgement :
    bleedStep .s1 suspectedRelease = suspectedRelease
      ∧ bleedStep .s1 suspectedSurge = suspectedSurge
      ∧ (let t := bleedStep .s1 (judge .s1 suspectedRelease)
        (t.channel .s1).voice.state = .quiet ∧ t.queue.records = [])
      ∧ (let t := judge .s1 (bleedStep .s1 (endClip .s1 suspectedSurge))
        (t.channel .s1).voice.state = .acquiring ∧ t.queue.records = [])
      ∧ (let t := bleedStep .s1 (judge .s1 suspectedSurge)
        (t.channel .s1).voice.state = .sounding ∧ t.queue.records.length = 1) := by decide +kernel

theorem witness_VoiceTimersExpire :
    let limit := { acquiring with acqTimer := some 80 }
    let stalled := { sounding with stallTimer := some 57 }
    let lost := { sounding with lost := true, lostTimer := some 200 }
    limit.Lawful ∧ { limit with velocity := some 90 }.Lawful ∧ stalled.Lawful ∧ lost.Lawful
      ∧ ((voiced limit).channel .s1).active.acquisitionLimit = 80
      ∧ max 8 ((4 * ((voiced stalled).channel .s1).capture.pmax + 1023) / 1024) = 57
      ∧ ((voiced lost).channel .s1).active.lostLimit = 200
      ∧ (running.channel .s1).voice.state ≠ .acquiring
      ∧ (running.channel .s1).voice.state ≠ .sounding :=
  ⟨lawful_of_check (by decide), lawful_of_check (by decide), lawful_of_check (by decide),
    lawful_of_check (by decide), by decide +kernel⟩

/-- String 1 sounding at a boundary, its output this far above its base note. -/
def boundary (out : Nat) : State := (voiced sounding).mod .s1 fun c =>
  { c with reporter := { c.reporter with output := some out, boundaryDue := true } }

theorem witness_BoundaryConsidersAReport :
    ((boundary 3074).channel .s1).reporter.boundaryDue = true
      ∧ ((boundary 3074).channel .s1).reporter.output = some 3074
      ∧ ((boundary 3074).channel .s1).voice.baseNote = some 48
      ∧ ((boundary 3074).channel .s1).active.deadband = 2
      ∧ (running.channel .s1).reporter.boundaryDue = false
      ∧ glideAnswer .s1 (boundary 3074) = .admitted := by decide +kernel

/-- The boundary's event takes its slew step before it considers the report (R115). -/
theorem test_boundary_slews_first :
    let s := (boundary 3072).mod .s1 fun c =>
      { c with active := { c.active with slew := 8 },
               voice := { c.voice with currentPitch := some 3100 } }
    ((takeBoundary .s1 s).channel .s1).reporter.output = some 3080
      ∧ (takeBoundary .s1 s).queue.records = [.glide .s1 5 8] := by decide +kernel

/-- String 1's line with this drop, its comparison due. -/
def dropping (drop : Option Nat) : State := with1 fun c =>
  { c with gateLine := { c.gateLine with drop := drop, checkDue := true } }

theorem witness_DropRunsOut :
    ((dropping (some 4)).channel .s1).gateLine.drop = some 4
      ∧ ((dropping (some 4)).channel .s1).gateLine.checkDue = true
      ∧ ((dropping (some 4)).channel .s1).active.retriggerDrop ≤ 4
      ∧ 3 < ((dropping (some 3)).channel .s1).active.retriggerDrop
      ∧ ((dropping none).channel .s1).gateLine.drop = none
      ∧ (running.channel .s1).gateLine.checkDue = false := by decide +kernel

/-- A commit that shortens the drop after this frame end's comparison waits for the next one (R121). -/
theorem test_drop_is_compared_once :
    let compared := expireDrop .s1 (dropping (some 3))
    let shortened := compared.mod .s1 fun c => { c with active := { c.active with retriggerDrop := 2 } }
    ((expireDrop .s1 shortened).channel .s1).gateLine.drop = some 3 := by decide +kernel

/-! ## Witnesses: numbers and laws -/

theorem valid_default : (defaultProfile .s1).Valid .s1 := valid_of_check (by decide +kernel)

theorem witness_PeriodLimitsAreThoseOfTheNotes :
    let u (stamp : Stamp) := ((crossed [0] 0 255 stamp).channel .s1).capture
    (defaultProfile .s1).Valid .s1
      ∧ ((u 2395).pmin = (defaultProfile .s1).pmin ∧ (u 2395).pmax = (defaultProfile .s1).pmax
        ∧ (u 2395).age < 256 ∧ (u 2395).ring = [] ++ [0])
      ∧ ((2395 : Stamp) - 0).toNat = (defaultProfile .s1).pmin
      ∧ ((14357 : Stamp) - 0).toNat = (defaultProfile .s1).pmax :=
  ⟨valid_default, by decide +kernel⟩

theorem witness_PitchIsThatOfThePeriod :
    0 < 1 ∧ 754 * 1 ≤ 754 ∧ 257836 ≤ 257836 * 1 := by decide

theorem witness_RecordsAgreeWithSettings :
    (defaultProfile .s1).Valid .s1 ∧ defaultGlobals.Valid
      ∧ firstFailing (profileChecks .s1 (defaultProfile .s1).bytes) = none
      ∧ firstFailing (globalChecks defaultGlobals.bytes) = none
      ∧ firstFailing (globalChecks (List.replicate 6 0)) = some 3
      ∧ ¬GlobalFieldPasses (List.replicate 6 0) 3 ∧ GlobalFieldPasses (List.replicate 6 0) 2 :=
  ⟨valid_default, ⟨by decide, by decide, by decide⟩, by decide +kernel, by decide +kernel,
    by decide +kernel, by simp [GlobalFieldPasses, pairAt, byteAt],
    by simp [GlobalFieldPasses, byteAt]⟩

theorem witness_FramesAreReceived :
    running.link.rxState = .hunt ∧ (List.replicate 47 (0x7e : Byte)).length ≤ 47
      ∧ running.link.buffer.length < 2 := ⟨rfl, by decide, by decide⟩

theorem witness_RecordFramesDiffer :
    (Record.noteOn .s1 0 127 1 (-32) .none).inRange ∧ (Record.glide .s8 255 1536).inRange :=
  ⟨⟨by decide, by decide, by decide, by decide, by decide⟩, ⟨by decide, by decide⟩⟩

/-- A part with one step before it. -/
def stepping (i : Instr) (s : State) : State := { s with pending := [i] }

/-- A CROSSING handed on to an empty ring, which takes it, and the end of a RESTART's reply. -/
theorem witness_SoundnessIsKept :
    let crosses := stepping (.crossing .s1) (crossed [] 0 0 7)
    let answered := stepping .frameSent (restarting .due (.sending [0x7e] true))
    (Invariant crosses ∧ ∃ t, step crosses = .next t ∧ (t.channel .s1).capture.ring = [7])
      ∧ Invariant answered ∧ ∃ t, step answered = .next t ∧ t.modes.restart = .replySent :=
  ⟨⟨sound_of_check (by decide +kernel), _, rfl, by decide +kernel⟩,
    sound_of_check (by decide +kernel), _, rfl, by decide +kernel⟩

theorem witness_CaptureLawIsKept :
    let s := stepping (.crossing .s1) (crossed [] 0 0 7)
    CaptureLaw s ∧ ∃ t, step s = .next t ∧ (t.channel .s1).capture.ring = [7] :=
  ⟨witness_SoundnessIsKept.1.1.capture, _, rfl, by decide +kernel⟩

/-- A CLIP_END due, and a GLIDE_BOUNDARY due with a GLIDE of the string queued, which takes the offset. -/
theorem witness_MarkersAndGlidesStayLawful :
    let ends := stepping (.clipEnd .s1) (conditioned 128 0 0 ⟨true, true, true⟩ .clear .reset)
    let merges := stepping (.glideBoundary .s1)
      { boundary 3074 with queue := { Queue.reset with records := [.glide .s1 5 0], reserved := 1 } }
    (ConditionLaw ends ∧ ∃ t, step ends = .next t ∧ (t.channel .s1).clip = ⟨false, true, false⟩)
      ∧ OneGlideLaw merges
      ∧ ∃ t, step merges = .next t ∧ t.queue.records = [.glide .s1 5 2] := by
  refine ⟨⟨(sound_of_check (by decide +kernel)).conditions, _, rfl, by decide +kernel⟩, ?_, _, rfl,
    by decide +kernel⟩
  intro n; cases n <;> decide +kernel

/-- A SET-GLOBAL that LOCK refuses. -/
theorem witness_LockHolds :
    let s := stepping .setGlobal (holding 0x06 (modeRecord .off) locked)
    s.lock = true ∧ s.modes.restart = .none ∧ (∃ t, step s = .next t ∧ t.link.slot.isSome = true)
      ∧ (∀ straps, s.pending.head? ≠ some (.powerOn straps)
        ∧ s.pending.head? ≠ some (.supplyDrop straps)) ∧ s.pending.head? ≠ some .resetN :=
  ⟨rfl, rfl, ⟨_, rfl, by decide +kernel⟩, fun _ => ⟨nofun, nofun⟩, nofun⟩

end Sys2Proof.Machine.Tests
end

section
/-! The reasoning rules about conditions and mutes that the statements of chapter 1 need, and those
statements about CLIP and OPEN (R12 to R14, R85 to R87, R152 to R154). -/

namespace Sys2Proof.Machine

/-! ## Offers -/

/-- Whether an offer is admitted, and what it leaves, goes by the queue and the BACKLOG markers alone. -/
theorem offered_congr_left {r : Record} {s s' t : State} (o : Offered r s' t)
    (q : s'.queue = s.queue) (b : s'.backlog = s.backlog) : Offered r s t := by
  unfold Offered Admitted Joined State.hasRoom at *
  rwa [q, b] at o

theorem offerPlain_is_offered (r : Record) (s : State) : Offered r s (offerPlain r s) := by
  obtain ⟨admitted, refused⟩ := offerPlain_offered r s
  exact ⟨admitted, fun h => by rw [refused h]; exact ⟨rfl, rfl⟩⟩

/-! ## The markers of a string's condition -/

@[simp] theorem Channel.setMarkers_setMarkers (k : StringKind) (m m' : Markers) (c : Channel) :
    (c.setMarkers k m).setMarkers k m' = c.setMarkers k m' := by cases k <;> rfl

/-! ## The end of a condition's first episode (R154) -/

theorem reportEnd_channel (k : StringKind) (n : Str) (s : State) :
    (reportEnd k n s).channel n
      = (s.channel n).setMarkers k { (s.channel n).markers k with endMark := false } := by
  unfold reportEnd
  cases e : ((s.channel n).markers k).endMark
  · have same : { (s.channel n).markers k with endMark := false } = (s.channel n).markers k := by
      rw [← e]
    rw [same]
    cases k <;> rfl
  · cases m : s.globals.reportMask.has k <;> simp

theorem reportEnd_offered {k : StringKind} {n : Str} {s : State}
    (e : ((s.channel n).markers k).endMark = true) (m : s.globals.reportMask.has k = true) :
    Offered (.condition (.string k n) false) s (reportEnd k n s) := by
  simp only [reportEnd, e, m, if_true]
  exact offered_congr_left (offerPlain_is_offered _ _) rfl rfl

theorem reportEnd_silent {k : StringKind} {n : Str} {s : State}
    (h : ((s.channel n).markers k).endMark = false ∨ s.globals.reportMask.has k = false) :
    (reportEnd k n s).queue = s.queue ∧ (reportEnd k n s).backlog = s.backlog := by
  unfold reportEnd
  rcases h with e | m
  · simp [e]
  · cases e : ((s.channel n).markers k).endMark <;> simp [m]

/-! ## CLIP_END -/

theorem exec_clipEnd {s : State} (h : s.modes.resetPinLow = false) (n : Str) :
    exec (.clipEnd n) s = .next (endClip n s) :=
  congrArg Host.Outcome.next (State.live_of_released h _)

/-- Settles O40, by what the report of an end leaves of the string and of the queue. -/
theorem clipEnds : Obligations.ClipEnds := by
  intro n s released
  refine ⟨fun active due => ?_, fun notDue => ?_⟩
  · have ended : endClip n s = reportEnd .clip n (clearActive .clip n
        (s.mod n fun c => { c with lane := { c.lane with clipQuiet := 0 } })) := by
      simp [endClip, active, due]
    refine ⟨_, exec_clipEnd released n, endClip_onlyString n s, ?_, fun e m => ?_, fun h => ?_⟩
    · rw [ended, reportEnd_channel]
      simp [clearActive, Channel.setMarkers, Channel.markers]
    · rw [ended]
      exact offered_congr_left (reportEnd_offered
        (by simpa [clearActive, Channel.markers, Channel.setMarkers] using e) m) rfl rfl
    · rw [ended]
      exact reportEnd_silent (by
        simpa [clearActive, Channel.markers, Channel.setMarkers, KindSet.has] using h)
  · rw [exec_clipEnd released]
    rcases notDue with h | h <;> simp [endClip, h]

/-! ## A condition raised (R152, R153) -/

/-- The records of the queue but for reports of BACKLOG. -/
def State.keptRecords (s : State) : List Record := s.queue.records.filter (fun r => !r.isBacklog)

/-- A condition that becomes active now latches under the report mask, and so offers a record. -/
def State.latchesNow (s : State) (k : StringKind) (n : Str) : Bool :=
  !((s.channel n).markers k).latched && s.globals.reportMask.has k

/-- What an inactive condition raised on string `n` leaves. -/
structure Raised (k : StringKind) (n : Str) (s t : State) : Prop where
  channel : t.channel n = (s.channel n).setMarkers k
    ⟨true, true, ((s.channel n).markers k).endMark || (s.latchesNow k n && s.hasRoom 1)⟩
  kept : t.keptRecords = s.keptRecords
    ++ (if (s.latchesNow k n && s.hasRoom 1) = true then [.condition (.string k n) true] else [])
  reserved : t.queue.reserved = s.queue.reserved
  gateOpen : t.queue.gateOpen = s.queue.gateOpen
  silent : s.latchesNow k n = false → t.queue = s.queue ∧ t.backlog = s.backlog
  refused : s.latchesNow k n = true → s.hasRoom 1 = false →
    t.queue = { s.queue with dropped := true } ∧ t.backlog = s.backlog

theorem raiseCondition_of_active {k : StringKind} {n : Str} {s : State}
    (h : ((s.channel n).markers k).active = true) : raiseCondition k n s = s := by
  simp [raiseCondition, h]

/-- The three ways of raising an inactive condition: without a record, with one, and with one refused. -/
theorem raiseCondition_of_inactive {k : StringKind} {n : Str} {s : State}
    (h : ((s.channel n).markers k).active = false) :
    let marked (s : State) (ended : Bool) := s.mod n (Channel.setMarkers k ⟨true, true, ended⟩)
    let old := ((s.channel n).markers k).endMark
    (s.latchesNow k n = false → raiseCondition k n s = marked s old)
    ∧ (s.latchesNow k n = true → s.hasRoom 1 = true → raiseCondition k n s
        = marked (offerPlain (.condition (.string k n) true) (marked s old)) true)
    ∧ (s.latchesNow k n = true → s.hasRoom 1 = false → raiseCondition k n s
        = (marked s old).refuse) := by
  have room (f : Channel → Channel) : (s.mod n f).hasRoom 1 = s.hasRoom 1 := rfl
  unfold State.latchesNow
  refine ⟨fun l => ?_, fun l r => ?_, fun l r => ?_⟩
  · have l' : (((s.channel n).markers k).latched || !s.globals.reportMask.has k) = true := by
      rw [← Bool.not_eq_false', ← l]; simp
    simp only [raiseCondition, h, l', if_true]; rfl
  all_goals
    simp only [Bool.and_eq_true, Bool.not_eq_true'] at l
    simp [raiseCondition, h, l, room, r]

theorem raiseCondition_raised {k : StringKind} {n : Str} {s : State}
    (h : ((s.channel n).markers k).active = false) : Raised k n s (raiseCondition k n s) := by
  obtain ⟨silent, admitted, refused⟩ := raiseCondition_of_inactive h
  cases l : s.latchesNow k n
  · rw [silent l]
    constructor <;> simp [l, State.keptRecords]
  · cases r : s.hasRoom 1
    · rw [refused l r]
      constructor <;> simp [l, r, State.keptRecords]
    · rw [admitted l r]
      obtain ⟨⟨joined, -⟩, reserved⟩ := (offerPlain_offered (.condition (.string k n) true)
        (s.mod n (Channel.setMarkers k ⟨true, true, ((s.channel n).markers k).endMark⟩))).1 r
      have kept := joined.kept rfl
      constructor
      · simp [l, r]
      · simpa [l, r, State.keptRecords] using kept
      · simpa using reserved
      · simpa using joined.2
      · simp [l]
      · simp [r]

end Sys2Proof.Machine
end

section
/-! What a mute cause added or removed leaves of a string and of the queue (R85, R86), and the statements
about OPEN (R13, R14, R87, R153, R154). -/

namespace Sys2Proof.Machine

/-! ## A note that ends -/

theorem Voice.Lawful.unfixed {v : Voice} (l : v.Lawful) (h : v.reported = false) : v.fix = false := by
  rw [← Bool.not_eq_true]
  exact fun f => Bool.false_ne_true (h.symm.trans (l.fix f))

theorem Voice.unreported_eq_self {v : Voice} (r : v.reported = false) (f : v.fix = false) :
    { v with reported := false, fix := false } = v := by
  cases v; cases r; cases f; rfl

/-- What the NOTE-OFF of a voice leaves of the queue: the record behind the others where the voice was
reported, and its slots given back (R127, R129). -/
theorem offerNoteOff_account {n : Str} {s : State} (l : (s.channel n).voice.Lawful)
    (reason : OffReason) :
    let v := (s.channel n).voice
    let t := offerNoteOff n reason s
    t.keptRecords = s.keptRecords ++ (if v.reported = true then [.noteOff n v.serial reason] else [])
    ∧ t.queue.reserved = s.queue.reserved - v.slots ∧ t.queue.gateOpen = s.queue.gateOpen
    ∧ (s.queue.dropped = true → t.queue.dropped = true) := by
  dsimp only
  cases h : (s.channel n).voice.reported
  · simp [offerNoteOff_unreported h, Voice.slots, h, l.unfixed h]
  · obtain ⟨⟨joined, -⟩, reserved, -⟩ := offerNoteOff_reported h reason
    refine ⟨joined.kept rfl, ?_, joined.2, fun d => ?_⟩
    · rw [reserved, Voice.slots, h]
      cases (s.channel n).voice.fix <;> rfl
    · simp only [offerNoteOff, h, if_true]
      exact (updateBacklog_account _).2.2.1 d

/-- What a note's end leaves of its string: the voice unreported, and the line fallen (R63, R119). -/
theorem endNote_channel {n : Str} {s : State} (l : (s.channel n).voice.Lawful)
    (reason : OffReason) :
    (endNote n reason s).channel n = { s.channel n with
      voice := { (s.channel n).voice with reported := false, fix := false }
      gateLine := { (s.channel n).gateLine with
        high := false, drop := some 0, checkDue := false, fresh := s.atFrameEnd } } := by
  rw [← endNote_line n reason s]
  cases h : (s.channel n).voice.reported
  · rw [Voice.unreported_eq_self h (l.unfixed h)]
    simp only [endNote, lowerLine, offerNoteOff_unreported h, State.channel_mod_self]
  · simp only [endNote, lowerLine, State.channel_mod_self, (offerNoteOff_reported h reason).2.2,
      Channel.modVoice]

/-! ## A mute cause added (R85) -/

/-- What a mute cause added to string `n` leaves of the string and of the queue. -/
structure CauseAdded (cause : MuteCause) (n : Str) (s t : State) : Prop where
  voice : (t.channel n).voice = ({ bareVoice .muted (s.channel n).voice with
    damp := (s.channel n).voice.damp, openCause := (s.channel n).voice.openCause } : Voice).setCause
      cause true
  line : (t.channel n).gateLine = (if (s.channel n).voice.state = .sounding then
    { (s.channel n).gateLine with
      high := false, drop := some 0, checkDue := false, fresh := s.atFrameEnd }
    else (s.channel n).gateLine)
  source : (s.channel n).SameSource (t.channel n)
  capture : (t.channel n).capture = (s.channel n).capture
  kept : t.keptRecords = s.keptRecords ++ (if (s.channel n).voice.reported = true
    then [.noteOff n (s.channel n).voice.serial cause.reason] else [])
  reserved : t.queue.reserved = s.queue.reserved - (s.channel n).voice.slots
  gateOpen : t.queue.gateOpen = s.queue.gateOpen
  dropped : s.queue.dropped = true → t.queue.dropped = true

/-- A voice's mute causes stand through a change of state, and its reported flag with them. -/
theorem Voice.entering_setCause (st : VoiceState) (cause : MuteCause) (v : Voice)
    (r : v.reported = false) (f : v.fix = false) :
    (v.setCause cause true).entering st
      = ({ bareVoice st v with damp := v.damp, openCause := v.openCause } : Voice).setCause
          cause true := by
  cases cause <;> simp [setCause, entering, bareVoice, Voice.reset, r, f]

theorem addCause_added {n : Str} {s : State} (l : (s.channel n).voice.Lawful) (cause : MuteCause) :
    CauseAdded cause n s (addCause cause n s) := by
  by_cases sounding : (s.channel n).voice.state = .sounding
  · have none : (s.channel n).voice.hasCause = false := by
      obtain ⟨d, o⟩ := l.unmuted (by simp [sounding])
      simp [Voice.hasCause, d, o]
    obtain ⟨kept, reserved, gateOpen, dropped⟩ := offerNoteOff_account l cause.reason
    have added : addCause cause n s = (endNote n cause.reason s).mod n
        fun c => (c.modVoice (.setCause cause true)).entering .muted := by
      simp [addCause, none, sounding]
    have voice := Voice.entering_setCause .muted cause
      { (s.channel n).voice with reported := false, fix := false } rfl rfl
    rw [added]
    refine ⟨?_, ?_, ?_, ?_, kept, reserved, gateOpen, dropped⟩
    · rw [State.channel_mod_self, endNote_channel l]; exact voice
    · simp [endNote_channel l, Channel.entering, Channel.modVoice, sounding]
    · constructor <;> simp [endNote_channel l, Channel.entering, Channel.modVoice]
    · simp [endNote_channel l, Channel.entering, Channel.modVoice]
  · obtain ⟨unreported, unfixed⟩ := l.unreported sounding
    have voice := Voice.entering_setCause .muted cause (s.channel n).voice unreported unfixed
    have quietly (f : Channel → Channel) (e : addCause cause n s = s.mod n f)
        (v : (f (s.channel n)).voice = ((s.channel n).voice.setCause cause true).entering .muted)
        (g : (f (s.channel n)).gateLine = (s.channel n).gateLine)
        (u : (f (s.channel n)).capture = (s.channel n).capture)
        (same : (s.channel n).SameSource (f (s.channel n))) :
        CauseAdded cause n s (addCause cause n s) := by
      rw [e]
      constructor <;>
        simp [State.keptRecords, v, voice, g, u, same, sounding, unreported, Voice.slots, unfixed]
    cases has : (s.channel n).voice.hasCause
    · exact quietly (fun c => (c.modVoice (.setCause cause true)).entering .muted)
        (by simp [addCause, has, sounding]) rfl rfl rfl ⟨rfl, rfl, rfl, rfl, rfl, rfl, rfl⟩
    · have muted := l.muted.mp has
      have bare := l.bare (.inr (.inr muted))
      refine quietly (.modVoice (.setCause cause true)) (by simp [addCause, has]) ?_ rfl rfl
        ⟨rfl, rfl, rfl, rfl, rfl, rfl, rfl⟩
      rw [muted] at bare
      calc (s.channel n).voice.setCause cause true
          = ((s.channel n).voice.entering .muted).setCause cause true := by rw [← bare]
        _ = ((s.channel n).voice.setCause cause true).entering .muted := by cases cause <;> rfl

/-! ## OPEN_ACTIVE -/

theorem exec_openActive {s : State} (h : s.modes.resetPinLow = false) (n : Str) :
    exec (.openActive n) s = .next (openBecomesActive n s) :=
  congrArg Host.Outcome.next (State.live_of_released h _)

/-- Settles O41, by composing what the condition raised and the mute cause added leave. -/
theorem openMutesTheVoice : Obligations.OpenMutesTheVoice := by
  intro n s released
  refine ⟨fun lawful inactive noMark due => ?_, fun notDue => ?_⟩
  · set cleared := clearOpenCounts n s with cleared_def
    set raised := raiseCondition .openKind n cleared with raised_def
    have opened : openBecomesActive n s = addCause .openCause n raised := by
      simp [openBecomesActive, inactive, due, raised_def, cleared_def]
    have clearedChannel : cleared.channel n = { s.channel n with
        lane := { (s.channel n).lane with openHold := 0, openRelease := 0 } } := by
      simp [cleared_def, clearOpenCounts]
    have latches : cleared.latchesNow .openKind n
        = (!(s.channel n).openMarks.latched && s.globals.reportMask.openKind) := by
      simp [State.latchesNow, Channel.markers, KindSet.has, cleared_def, clearOpenCounts]
    have r : Raised .openKind n cleared raised :=
      raiseCondition_raised (by simp [clearedChannel, Channel.markers, inactive])
    have room : cleared.hasRoom 1 = s.hasRoom 1 := rfl
    have outside : Outside s raised :=
      ((mod_onlyString s n _).trans (raiseCondition_onlyString .openKind n cleared)).outside
    have raisedChannel := r.channel
    rw [clearedChannel, latches, room] at raisedChannel
    have raisedVoice : (raised.channel n).voice = (s.channel n).voice := by
      rw [raisedChannel]; rfl
    have a := addCause_added (n := n) (s := raised) (raisedVoice ▸ lawful.voice) .openCause
    have source := a.source
    have kept := a.kept
    rw [raisedVoice, r.kept, latches, room] at kept
    refine ⟨_, exec_openActive released n, openBecomesActive_onlyString n s, ?_, ?_, ?_, ?_, ?_⟩
    all_goals rw [opened]
    · refine ⟨?_, ?_, ?_, ?_, ?_, ?_, ?_, ?_, ?_, ?_, ?_, fun h => ?_, fun h => ?_⟩
      · rw [source.openMarks, raisedChannel]; rfl
      · rw [source.openMarks, raisedChannel]; rfl
      · rw [source.openMarks, raisedChannel]; simp [Channel.setMarkers, Channel.markers, noMark]
      · rw [source.lane, raisedChannel]; rfl
      · rw [a.voice, raisedVoice]; rfl
      · rw [a.capture, raisedChannel]; rfl
      · rw [source.detector, raisedChannel]; rfl
      · rw [source.clip, raisedChannel]; rfl
      · rw [source.active, raisedChannel]; rfl
      · rw [source.staged, raisedChannel]; rfl
      · rw [source.pendingFlag, raisedChannel]; rfl
      · rw [a.line, raisedVoice, if_pos h, raisedChannel, State.atFrameEnd, outside.frameSamples]
        rfl
      · rw [a.line, raisedVoice, if_neg h, raisedChannel]; rfl
    · exact kept
    · rw [a.reserved, raisedVoice, r.reserved]; rfl
    · rw [a.gateOpen, r.gateOpen]; rfl
    · intro l noRoom
      apply a.dropped
      rw [(r.refused (latches.trans l) noRoom).1]
  · rw [exec_openActive released]
    rcases notDue with h | h <;> simp [openBecomesActive, h]

end Sys2Proof.Machine
end

section
/-! What the end of OPEN leaves of a string (R14, R86, R144, R159), and its statement. -/

namespace Sys2Proof.Machine

/-! ## A commit by what it leaves of the string -/

/-- A commit that leaves an enabled string enabled moves neither its voice nor its conditions (R145). -/
theorem Channel.commit_of_enabled {c : Channel} (a : c.active.enabled = true)
    (e : c.staged.enabled = true) (damped : Bool) :
    c.commit damped = { c with
      active := c.staged, pendingFlag := false, lane := c.lane.commit c.active c.staged
      capture := c.capture.commit c.staged, detector := c.detector.commit c.staged } := by
  simp [commit, a, e]

/-- A commit that disables the string leaves its voice QUIET with no mute cause and its conditions clear
(R87, R89, R93, R159). -/
theorem Channel.commit_of_disabling {c : Channel} (e : c.staged.enabled = false) (damped : Bool) :
    (c.commit damped).voice = { c.voice.entering .quiet with damp := false, openCause := false }
    ∧ (c.commit damped).clip = .clear ∧ (c.commit damped).openMarks = .clear := by
  simp [commit, e, entering]

theorem Channel.commit_active (c : Channel) (damped : Bool) :
    (c.commit damped).active = c.staged ∧ (c.commit damped).pendingFlag = false := by
  unfold commit
  dsimp only
  split
  · split <;> exact ⟨rfl, rfl⟩
  · exact ⟨rfl, rfl⟩

/-- OPEN counts that stand at 0 stay so at a commit. -/
theorem Lane.commit_openCounts (old new : Profile) (l : Lane) (h : l.openHold = 0)
    (r : l.openRelease = 0) :
    (l.commit old new).openHold = 0 ∧ (l.commit old new).openRelease = 0 := by
  unfold commit
  dsimp only
  split
  · exact ⟨h, r⟩
  · exact ⟨rfl, rfl⟩

theorem Channel.commit_lane (c : Channel) (damped : Bool) :
    (c.commit damped).lane = c.lane.commit c.active c.staged := by
  unfold commit
  dsimp only
  split
  · split <;> rfl
  · rfl

/-! ## The string as OPEN ends -/

/-- The string with OPEN inactive, its counts 0 and its cause gone, before the voice takes its state. -/
def Channel.openCleared (c : Channel) : Channel :=
  { c with
    lane := { c.lane with openHold := 0, openRelease := 0 }
    openMarks := { c.openMarks with active := false }
    voice := { c.voice with openCause := false } }

@[simp] theorem Channel.openCleared_hasCause (c : Channel) :
    c.openCleared.voice.hasCause = c.voice.damp := Bool.or_false _
@[simp] theorem Channel.openCleared_detector (c : Channel) :
    c.openCleared.detector = c.detector := rfl
@[simp] theorem Channel.openCleared_pendingFlag (c : Channel) :
    c.openCleared.pendingFlag = c.pendingFlag := rfl

/-- The string after the OPEN cause is removed and before the end is reported (R86, R144). -/
def Channel.openEnded (damped : Bool) (c : Channel) : Channel :=
  if c.voice.damp then c.openCleared
  else if c.detector.gate ≠ .closed then c.openCleared.entering .silent
  else if c.pendingFlag then (c.openCleared.entering .quiet).commit damped
  else c.openCleared.entering .quiet

theorem Channel.openEnded_damped {c : Channel} (d : c.voice.damp = true) (damped : Bool) :
    c.openEnded damped = c.openCleared := by simp [openEnded, d]

theorem Channel.openEnded_opened {c : Channel} (d : c.voice.damp = false)
    (g : c.detector.gate ≠ .closed) (damped : Bool) :
    c.openEnded damped = c.openCleared.entering .silent := by simp [openEnded, d, g]

theorem Channel.openEnded_quiet {c : Channel} (d : c.voice.damp = false)
    (g : c.detector.gate = .closed) (p : c.pendingFlag = false) (damped : Bool) :
    c.openEnded damped = c.openCleared.entering .quiet := by simp [openEnded, d, g, p]

theorem Channel.openEnded_commits {c : Channel} (d : c.voice.damp = false)
    (g : c.detector.gate = .closed) (p : c.pendingFlag = true) (damped : Bool) :
    c.openEnded damped = (c.openCleared.entering .quiet).commit damped := by
  simp [openEnded, d, g, p]

/-- OPEN_END of a lawful string, where it is due, is that change of the string with the report behind it. -/
theorem openBecomesInactive_of_due {n : Str} {s : State} (lawful : (s.channel n).Lawful)
    (active : (s.channel n).openMarks.active = true)
    (due : (s.channel n).lane.openRelease = 256) :
    openBecomesInactive n s
      = reportEnd .openKind n (s.mod n (Channel.openEnded s.mute.inForce)) := by
  have cause : (s.channel n).voice.openCause = true := lawful.openMute.trans active
  set cleared := clearActive .openKind n (clearOpenCounts n s) with cleared_def
  have clearedChannel : cleared.channel n = { s.channel n with
      lane := { (s.channel n).lane with openHold := 0, openRelease := 0 }
      openMarks := { (s.channel n).openMarks with active := false } } := by
    simp [cleared_def, clearActive, clearOpenCounts, Channel.setMarkers, Channel.markers]
  have removed : removeCause .openCause n cleared
      = s.mod n (Channel.openEnded s.mute.inForce) := by
    have has : (cleared.channel n).voice.has .openCause = true := by
      simp [clearedChannel, Voice.has, cause]
    have gone : cleared.mod n (.modVoice (.setCause .openCause false))
        = s.mod n Channel.openCleared := by
      simp only [cleared_def, clearActive, clearOpenCounts, State.mod_mod]
      rfl
    simp only [removeCause, has, if_true, gone, State.channel_mod_self, Channel.openCleared_hasCause,
      Channel.openCleared_detector]
    cases d : (s.channel n).voice.damp
    · by_cases g : (s.channel n).detector.gate = .closed
      · cases p : (s.channel n).pendingFlag
        · simp only [g, Bool.false_eq_true, if_false, if_true, enterQuiet, State.channel_mod_self,
            State.mod_mod, Channel.openCleared_pendingFlag, p]
          exact State.mod_congr (Channel.openEnded_quiet d g p _).symm
        · simp only [g, Bool.false_eq_true, if_false, if_true, enterQuiet, commitProfile,
            State.channel_mod_self, State.mod_mod, State.mute_mod, Channel.openCleared_pendingFlag, p]
          exact State.mod_congr (Channel.openEnded_commits d g p _).symm
      · simp only [g, Bool.false_eq_true, if_false, State.mod_mod]
        exact State.mod_congr (Channel.openEnded_opened d g _).symm
    · exact State.mod_congr (Channel.openEnded_damped d _).symm
  simp [openBecomesInactive, active, due, ← cleared_def, removed]

/-- A string whose OPEN is active is enabled (R13, R159). -/
theorem Channel.Lawful.enabled_of_open {c : Channel} (l : c.Lawful) (h : c.openMarks.active = true) :
    c.active.enabled = true := by
  rw [← Bool.not_eq_false]
  intro e
  rw [(l.disabled e).markers.2] at h
  cases h

/-- The string's profile pending under a CLOSED gate disables it as OPEN ends with no DAMP cause. -/
def Channel.openEndDisables (c : Channel) : Prop :=
  c.pendingFlag = true ∧ c.voice.damp = false ∧ c.detector.gate = .closed
    ∧ c.staged.enabled = false

/-- A MUTED voice whose OPEN cause was the last holds nothing in the state it enters. -/
theorem Voice.openCause_gone {v : Voice} (l : v.Lawful) (m : v.openCause = true)
    (d : v.damp = false) (st : VoiceState) :
    ({ v with openCause := false } : Voice).entering st = bareVoice st v := by
  have muted : v.state = .muted := l.muted.mp (by simp [Voice.hasCause, m])
  obtain ⟨r, f⟩ := l.unreported (by simp [muted])
  simp [entering, bareVoice, Voice.reset, r, f, d]

/-- What that change leaves of the conditions: clear where a commit disables the string (R159). -/
theorem Channel.openEnded_markers {c : Channel} (enabled : c.active.enabled = true)
    (damped : Bool) :
    (c.openEndDisables → (c.openEnded damped).clip = .clear ∧ (c.openEnded damped).openMarks = .clear)
    ∧ (¬c.openEndDisables → (c.openEnded damped).clip = c.clip
      ∧ (c.openEnded damped).openMarks = { c.openMarks with active := false }) := by
  unfold openEndDisables
  cases d : c.voice.damp
  · by_cases g : c.detector.gate = .closed
    · cases p : c.pendingFlag
      · simp [Channel.openEnded_quiet d g p, entering, openCleared]
      · rw [Channel.openEnded_commits d g p]
        cases e : c.staged.enabled
        · obtain ⟨-, clip, marks⟩ := commit_of_disabling (c := c.openCleared.entering .quiet) e damped
          exact ⟨fun _ => ⟨clip, marks⟩, fun h => absurd ⟨rfl, rfl, g, rfl⟩ h⟩
        · rw [commit_of_enabled (c := c.openCleared.entering .quiet) enabled e]
          exact ⟨fun h => Bool.noConfusion h.2.2.2, fun _ => ⟨rfl, rfl⟩⟩
    · simp [Channel.openEnded_opened d g, g, entering, openCleared]
  · simp [Channel.openEnded_damped d, openCleared]

/-- The voice under a remaining DAMP cause, under an open gate, and under a CLOSED one (R86). -/
theorem Channel.openEnded_voice {c : Channel} (lawful : c.Lawful) (active : c.openMarks.active = true)
    (damped : Bool) :
    (c.voice.damp = true → (c.openEnded damped).voice = { c.voice with openCause := false })
    ∧ (c.voice.damp = false → c.detector.gate ≠ .closed →
      (c.openEnded damped).voice = bareVoice .silent c.voice)
    ∧ (c.voice.damp = false → c.detector.gate = .closed →
      (c.openEnded damped).voice = bareVoice .quiet c.voice) := by
  have gone := Voice.openCause_gone lawful.voice (lawful.openMute.trans active)
  refine ⟨fun d => ?_, fun d g => ?_, fun d g => ?_⟩
  · rw [openEnded_damped d]; rfl
  · rw [openEnded_opened d g]; exact gone d .silent
  · cases p : c.pendingFlag
    · rw [openEnded_quiet d g p]; exact gone d .quiet
    · rw [openEnded_commits d g p]
      cases e : c.staged.enabled
      · rw [(commit_of_disabling (c := c.openCleared.entering .quiet) e damped).1]
        exact (congrArg (fun v => { v.entering .quiet with damp := false, openCause := false })
          (gone d .quiet)).trans rfl
      · rw [commit_of_enabled (c := c.openCleared.entering .quiet)
          (lawful.enabled_of_open active) e]
        exact gone d .quiet

/-- The OPEN counts are 0 at the end of OPEN, a commit included. -/
theorem Channel.openEnded_counts (c : Channel) (damped : Bool) :
    (c.openEnded damped).lane.openHold = 0 ∧ (c.openEnded damped).lane.openRelease = 0 := by
  unfold openEnded
  split
  · exact ⟨rfl, rfl⟩
  · split
    · exact ⟨rfl, rfl⟩
    · split
      · rw [commit_lane]; exact Lane.commit_openCounts _ _ _ rfl rfl
      · exact ⟨rfl, rfl⟩

/-- Without a commit the string keeps its profile, its other blocks and the rest of its lane. -/
theorem Channel.openEnded_uncommitted {c : Channel}
    (h : c.voice.damp = true ∨ c.detector.gate ≠ .closed ∨ c.pendingFlag = false) (damped : Bool) :
    let d := c.openEnded damped
    d.active = c.active ∧ d.pendingFlag = c.pendingFlag
    ∧ d.lane = { c.lane with openHold := 0, openRelease := 0 }
    ∧ d.detector = c.detector ∧ d.capture = c.capture ∧ d.gateLine = c.gateLine := by
  have uncommitted : c.openEnded damped = c.openCleared
      ∨ ∃ st, c.openEnded damped = c.openCleared.entering st := by
    cases d : c.voice.damp
    · by_cases g : c.detector.gate = .closed
      · have p : c.pendingFlag = false := by simpa [d, g] using h
        exact .inr ⟨_, openEnded_quiet d g p damped⟩
      · exact .inr ⟨_, openEnded_opened d g damped⟩
    · exact .inl (openEnded_damped d damped)
  dsimp only
  rcases uncommitted with e | ⟨st, e⟩ <;> rw [e] <;> exact ⟨rfl, rfl, rfl, rfl, rfl, rfl⟩

/-! ## OPEN_END -/

theorem exec_openEnd {s : State} (h : s.modes.resetPinLow = false) (n : Str) :
    exec (.openEnd n) s = .next (openBecomesInactive n s) :=
  congrArg Host.Outcome.next (State.live_of_released h _)

/-- Settles O42, by reading the step as one change of the string with the report of the end behind it. -/
theorem openEndUnmutes : Obligations.OpenEndUnmutes := by
  intro n s released
  refine ⟨fun lawful active due => ?_, fun notDue => ?_⟩
  · have opened := openBecomesInactive_of_due lawful active due
    set ended := s.mod n (Channel.openEnded s.mute.inForce) with ended_def
    have endedChannel : ended.channel n = (s.channel n).openEnded s.mute.inForce :=
      State.channel_mod_self ..
    have channel := reportEnd_channel .openKind n ended
    rw [endedChannel] at channel
    obtain ⟨cleared, marked⟩ :=
      Channel.openEnded_markers (lawful.enabled_of_open active) s.mute.inForce
    obtain ⟨damped, silent, quiet⟩ := Channel.openEnded_voice lawful active s.mute.inForce
    obtain ⟨hold, release⟩ := Channel.openEnded_counts (s.channel n) s.mute.inForce
    refine ⟨_, exec_openEnd released n, openBecomesInactive_onlyString n s, ?_, ?_, ?_⟩
    all_goals rw [opened]
    · rw [channel]
      refine ⟨fun h => ?_, fun h => ?_, hold, release, damped, silent, quiet, fun d g p => ?_,
        fun h => Channel.openEnded_uncommitted h _⟩
      · obtain ⟨clip, marks⟩ := cleared h
        exact ⟨clip, by simp [Channel.setMarkers, Channel.markers, marks, Markers.clear]⟩
      · obtain ⟨clip, marks⟩ := marked h
        exact ⟨clip, by simp [Channel.setMarkers, Channel.markers, marks]⟩
      · rw [Channel.openEnded_commits d g p]
        exact Channel.commit_active _ _
    · intro mark mask stays
      refine offered_congr_left (reportEnd_offered ?_ mask) rfl rfl
      rw [endedChannel]
      exact (congrArg Markers.endMark (marked stays).2).trans mark
    · intro unreported
      refine reportEnd_silent (n := n) (s := ended) ?_
      rw [endedChannel]
      by_cases h : (s.channel n).openEndDisables
      · exact .inl (congrArg Markers.endMark (cleared h).2)
      · rcases unreported with mark | mask | disables
        · exact .inl ((congrArg Markers.endMark (marked h).2).trans mark)
        · exact .inr mask
        · exact absurd disables h
  · rw [exec_openEnd released]
    rcases notDue with h | h <;> simp [openBecomesInactive, h]

end Sys2Proof.Machine
end

section
/-! What a frame end leaves of each block of a string and of the mode controller (R3, R10 to R14, R24, R62,
R110, R115, R121, R164, R173, R176), and its statement. -/

namespace Sys2Proof.Machine

/-! ## The lane -/

theorem trackOffset_rises {offset mean : Int} (h : offset < mean) :
    trackOffset offset mean = min 2047 (offset + 1) := by simp [trackOffset, h]

theorem trackOffset_falls {offset mean : Int} (h : mean < offset) :
    trackOffset offset mean = max (-2048) (offset - 1) := by
  simp [trackOffset, h, Int.not_lt.mpr (Int.le_of_lt h)]

theorem trackOffset_stands {offset mean : Int} (h : mean = offset) :
    trackOffset offset mean = offset := by simp [trackOffset, h]

/-- A frame end of RUN counts for OPEN on an enabled string (R13). -/
def Channel.openCounts (mode : Mode) (c : Channel) : Bool := mode = .run && c.active.enabled

theorem Channel.laneFrameEnd_lane {mode : Mode} (h : mode ≠ .start) (c : Channel) :
    (c.laneFrameEnd mode).lane = { c.lane with
      frame := .empty
      offset := trackOffset c.lane.offset (roundHalfAway c.lane.frame.sum 8)
      envelope := max c.lane.frame.peak (c.lane.envelope - c.active.decayStep)
      clipQuiet := if c.active.enabled ∧ c.clip.active ∧ c.lane.frame.limit = false
        then min 128 (c.lane.clipQuiet + 1) else c.lane.clipQuiet
      openHold := if c.openCounts mode && !c.openMarks.active then
          (if c.lane.frame.high ∧ c.lane.frame.crossed = false
            then min 256 (c.lane.openHold + 1) else 0)
        else c.lane.openHold
      openRelease := if c.openCounts mode && c.openMarks.active then
          (if c.lane.frame.high then 0 else min 256 (c.lane.openRelease + 1))
        else c.lane.openRelease } := by
  cases mode
  · exact absurd rfl h
  all_goals simp [laneFrameEnd, openCounts, tick, and_assoc]

/-! ## The other blocks -/

theorem Channel.reporterFrameEnd_only (c : Channel) :
    c.reporterFrameEnd = { c with reporter := c.reporterFrameEnd.reporter } := by
  unfold reporterFrameEnd
  split <;> rfl

/-- The reporter's frame end looks at the profile, the reporter and the current pitch alone. -/
theorem Channel.reporterFrameEnd_congr {c d : Channel} (a : d.active = c.active)
    (r : d.reporter = c.reporter) (p : d.voice.currentPitch = c.voice.currentPitch) :
    d.reporterFrameEnd.reporter = c.reporterFrameEnd.reporter := by
  have boundary : d.reachesBoundary = c.reachesBoundary := by
    simp only [reachesBoundary, a, r]
  have output : d.steppedOutput = c.steppedOutput := by simp only [steppedOutput, a, r, p]
  cases h : c.reachesBoundary
  · rw [reporterFrameEnd_between h, reporterFrameEnd_between (boundary.trans h), r, output]
  · rw [reporterFrameEnd_boundary h, reporterFrameEnd_boundary (boundary.trans h), r]

/-- The blocks of a string at a frame end of RUN, each by its own rule: no block's rule looks at what
another has made of this frame end. -/
theorem Channel.frameEnd_run (c : Channel) :
    c.frameEnd .run = { c with
      lane := (c.laneFrameEnd .run).lane
      capture := c.capture.frameEnd
      detector := { c.detector with judgementDue := c.active.enabled }
      voice := c.voiceFrameEnd.voice
      bleed := { c.bleed with stepDue := c.voice.state == .suspect }
      reporter := c.reporterFrameEnd.reporter
      gateLine := c.gateLine.frameEnd } := by
  have reporter : ((c.laneFrameEnd .run).voiceFrameEnd).reporterFrameEnd.reporter
      = c.reporterFrameEnd.reporter := reporterFrameEnd_congr rfl rfl rfl
  unfold frameEnd runFrameEnd
  rw [reporterFrameEnd_only, reporter]
  rfl

theorem Capture.frameEnd_eq (u : Capture) :
    u.frameEnd = { u with age := if u.ring = [] then u.age else min 256 (u.age + 1) } := by
  by_cases h : u.ring = []
  · rw [if_pos h]; exact if_pos (List.isEmpty_iff.mpr h)
  · rw [if_neg h]; exact if_neg (mt List.isEmpty_iff.mp h)

/-- The voice's timers at a frame end of RUN, each up to its limit (R62, R71, R82, R83). -/
theorem Channel.voiceFrameEnd_voice (c : Channel) :
    c.voiceFrameEnd.voice = { c.voice with
      acqTimer := if c.voice.state = .acquiring
        then c.voice.acqTimer.map fun k => min c.active.acquisitionLimit (k + 1)
        else c.voice.acqTimer
      stallTimer := if c.voice.state = .sounding ∧ c.voice.lost = false ∧ c.voice.stallFresh = false
        then c.voice.stallTimer.map fun k => min (stallTime c.capture.pmax) (k + 1)
        else c.voice.stallTimer
      stallFresh := false
      lostTimer := if c.voice.state = .sounding ∧ c.voice.lost = true
        then c.voice.lostTimer.map fun k => min c.active.lostLimit (k + 1)
        else c.voice.lostTimer } := by
  simp only [voiceFrameEnd, Bool.and_eq_true, Bool.not_eq_true', decide_eq_true_eq, and_assoc]
  rfl

/-- At any frame end that is no boundary the slew step is taken (R110). -/
theorem Channel.steppedOutput_stepped (c : Channel) : OutputStepped c c.steppedOutput :=
  ⟨fun _ _ out current => steppedOutput_of_pitched out current, steppedOutput_of_absent⟩

theorem Channel.reporterFrameEnd_absent {c : Channel}
    (h : c.reporter.schedule = none ∨ c.reporter.fresh = true) :
    c.reporterFrameEnd.reporter
      = { c.reporter with output := c.steppedOutput, fresh := false } := by
  have between : c.reachesBoundary = false := by
    unfold reachesBoundary
    rcases h with h | h
    · simp [h]
    · rw [h]
      cases c.reporter.schedule <;> cases c.active.glideMode <;> rfl
  rw [reporterFrameEnd_between between]
  rcases h with h | h <;> simp [Reporter.count, h]

theorem Channel.reporterFrameEnd_periodic {c : Channel} {count interval : Nat}
    (schedule : c.reporter.schedule = some count) (mode : c.active.glideMode = .periodic interval)
    (started : c.reporter.fresh = false) :
    (interval ≤ count + 1 → c.reporterFrameEnd.reporter
      = { c.reporter with schedule := some 0, boundaryDue := true })
    ∧ (count + 1 < interval → c.reporterFrameEnd.reporter
      = { c.reporter with output := c.steppedOutput, schedule := some (count + 1) }) := by
  refine ⟨fun h => ?_, fun h => ?_⟩
  · rw [reporterFrameEnd_boundary (by simp [reachesBoundary, schedule, mode, started, h])]
  · rw [reporterFrameEnd_between (by simp [reachesBoundary, schedule, mode, h])]
    simp [Reporter.count, schedule, started]

/-! ## The mode controller -/

theorem State.isIdle_iff (s : State) : s.isIdle = true ↔
    (∀ n, (s.channel n).active.enabled = true → (s.channel n).voice.state = .quiet)
      ∧ s.queue.records = [] ∧ s.link.slot = none := by
  simp only [isIdle, anyString, Bool.and_eq_true, Bool.not_eq_true', List.any_eq_false,
    List.isEmpty_iff, Option.isNone_iff_eq_none, and_assoc]
  refine and_congr_left fun _ => forall_congr' fun n => ?_
  simp [Str.mem_all]

theorem idleFrameEnd_of_busy {s : State} (h : s.globals.dozeIdleCode = 0 ∨ s.isIdle = false) :
    idleFrameEnd s = { s with modes := { s.modes with idle := 0, idleDue := false } } := by
  simp [idleFrameEnd, h]

theorem idleFrameEnd_of_idle {s : State} (code : s.globals.dozeIdleCode ≠ 0)
    (h : s.isIdle = true) :
    idleFrameEnd s = { s with modes := { s.modes with
      idle := min (64 * 2 ^ s.globals.dozeIdleCode) (s.modes.idle + 1)
      idleDue := decide (64 * 2 ^ s.globals.dozeIdleCode ≤ s.modes.idle + 1) } } := by
  unfold idleFrameEnd
  rw [if_neg (by simp [code, h])]
  rfl

/-- The mode controller and the mute logic at a frame end leave everything else as it is. -/
theorem modeFrameEnd_only (damp : Bool) (s : State) :
    modeFrameEnd damp s
      = { s with modes := (modeFrameEnd damp s).modes, mute := (modeFrameEnd damp s).mute } := by
  unfold modeFrameEnd
  split
  · rfl
  · unfold idleFrameEnd
    split <;> rfl
  · rfl

/-- The part at a frame end once every string and the link's timer have taken it, and before the mode
controller does. -/
def State.blocksEnded (s : State) : State :=
  { s.modAll (Channel.frameEnd s.modes.mode) with frameSamples := 0, link := s.link.frameEnd }

theorem takeFrameEnd_of_due {s : State} (h : s.frameSamples = 8) (damp : Bool) :
    takeFrameEnd damp s = modeFrameEnd damp s.blocksEnded := by
  simp [takeFrameEnd, State.atFrameEnd, State.blocksEnded, h]

theorem State.blocksEnded_channel (s : State) (n : Str) :
    s.blocksEnded.channel n = (s.channel n).frameEnd s.modes.mode := by simp [blocksEnded]

/-- In each mode the mode controller and the mute logic make their own part of a frame end. -/
theorem modeFrameEnd_start {s : State} (h : s.modes.mode = .start) (damp : Bool) :
    modeFrameEnd damp s = { s with
      modes := { s.modes with settle := min 512 (s.modes.settle + 1) }
      mute := { s.mute with pin := damp } } := by
  simp only [modeFrameEnd, h]; rfl

theorem modeFrameEnd_run {s : State} (h : s.modes.mode = .run) (damp : Bool) :
    modeFrameEnd damp s
      = { s with modes := (idleFrameEnd s).modes, mute := s.mute.sample damp } := by
  simp only [modeFrameEnd, h, idleFrameEnd]
  split <;> rfl

theorem modeFrameEnd_doze {s : State} (h : s.modes.mode = .doze) (damp : Bool) :
    modeFrameEnd damp s = { s with
      modes := { s.modes with wakeDue := true }, mute := { s.mute with pin := damp } } := by
  simp only [modeFrameEnd, h]

theorem Mute.sample_eq (pin : Bool) (m : Mute) :
    m.sample pin = { m with
      pin := pin, previous := some pin
      changeDue := decide (m.previous = some pin ∧ pin ≠ m.debounced) } := by
  have change : (m.previous == some pin && pin != m.debounced)
      = decide (m.previous = some pin ∧ pin ≠ m.debounced) := by
    rw [Bool.eq_iff_iff]; simp
  rw [sample, change]

/-! ## A string in each mode -/

theorem Channel.frameEnd_settings (mode : Mode) (c : Channel) :
    let d := c.frameEnd mode
    d.active = c.active ∧ d.staged = c.staged ∧ d.pendingFlag = c.pendingFlag ∧ d.clip = c.clip
    ∧ d.openMarks = c.openMarks := by
  cases mode
  · exact ⟨rfl, rfl, rfl, rfl, rfl⟩
  · rw [frameEnd_run]; exact ⟨rfl, rfl, rfl, rfl, rfl⟩
  · exact ⟨rfl, rfl, rfl, rfl, rfl⟩

theorem Channel.frameEnd_lane (mode : Mode) (c : Channel) :
    (c.frameEnd mode).lane = (c.laneFrameEnd mode).lane := by
  cases mode
  · rfl
  · rw [frameEnd_run]
  · rfl

theorem Channel.frameEnd_voiceState (mode : Mode) (c : Channel) :
    (c.frameEnd mode).voice.state = c.voice.state := by
  cases mode
  · rfl
  · rw [frameEnd_run]; rfl
  · rfl

/-- The idle timer finds the part as idle as it was before the strings took the frame end (R176). -/
theorem State.blocksEnded_isIdle (s : State) : s.blocksEnded.isIdle = s.isIdle := by
  have slot : s.blocksEnded.link.slot = s.link.slot := by
    unfold blocksEnded Link.frameEnd
    dsimp only
    split <;> rfl
  have strings (n : Str) : (s.blocksEnded.channel n).active = (s.channel n).active
      ∧ (s.blocksEnded.channel n).voice.state = (s.channel n).voice.state := by
    rw [blocksEnded_channel]
    exact ⟨(Channel.frameEnd_settings _ _).1, Channel.frameEnd_voiceState _ _⟩
  rw [Bool.eq_iff_iff, isIdle_iff, isIdle_iff, slot]
  simp only [strings]
  rfl

/-! ## FRAME_END -/

theorem exec_frameEnd {s : State} (h : s.modes.resetPinLow = false) (damp : Bool) :
    exec (.frameEnd damp) s = .next (takeFrameEnd damp s) :=
  congrArg Host.Outcome.next (State.live_of_released h _)

/-- Settles O29, block by block. -/
theorem frameEnds : Obligations.FrameEnds := by
  intro damp s released
  refine ⟨fun early => ?_, fun due => ?_⟩
  · rw [exec_frameEnd released]
    simp [takeFrameEnd, State.atFrameEnd, early]
  have taken := takeFrameEnd_of_due due damp
  have only := taken.trans (modeFrameEnd_only damp s.blocksEnded)
  have mode : s.blocksEnded.modes.mode = s.modes.mode := rfl
  have channel (n : Str) :
      (takeFrameEnd damp s).channel n = (s.channel n).frameEnd s.modes.mode := by
    rw [only]; exact s.blocksEnded_channel n
  refine ⟨_, exec_frameEnd released damp, ?_, ?_, ?_, ?_, ?_, ?_, ?_, ?_, fun start => ?_,
    fun run => ?_, fun doze => ?_, fun started n => ?_⟩
  · rw [only]; rfl
  · rw [only]; rfl
  · rw [only]; rfl
  · rw [only]; rfl
  · rw [only]; rfl
  · rw [only]; rfl
  · rw [only]; rfl
  · rw [only]; rfl
  · refine ⟨?_, ?_, fun n => ?_⟩
    · rw [taken, modeFrameEnd_start (mode.trans start)]; rfl
    · rw [taken, modeFrameEnd_start (mode.trans start)]; rfl
    · rw [channel, start]; rfl
  · rw [taken, modeFrameEnd_run (mode.trans run)]
    refine ⟨?_, fun busy => ?_, fun code empty slot quiet => ?_⟩
    · exact Mute.sample_eq damp s.mute
    · rw [idleFrameEnd_of_busy]
      · rfl
      · rw [State.blocksEnded_isIdle, ← Bool.not_eq_true, State.isIdle_iff]
        rcases busy with code | records | slot | ⟨n, enabled, state⟩
        · exact .inl code
        · exact .inr fun h => records h.2.1
        · exact .inr fun h => slot h.2.2
        · exact .inr fun h => state (h.1 n enabled)
    · have idle : s.blocksEnded.isIdle = true := by
        rw [State.blocksEnded_isIdle, State.isIdle_iff]
        exact ⟨quiet, empty, slot⟩
      rw [idleFrameEnd_of_idle (s := s.blocksEnded) code idle]; rfl
  · rw [taken, modeFrameEnd_doze (mode.trans doze)]
    exact ⟨rfl, rfl⟩
  · dsimp only
    rw [channel]
    obtain ⟨active, staged, pendingFlag, clip, openMarks⟩ :=
      Channel.frameEnd_settings s.modes.mode (s.channel n)
    have lane := (Channel.frameEnd_lane s.modes.mode (s.channel n)).trans
      (Channel.laneFrameEnd_lane started _)
    refine ⟨active, staged, pendingFlag, clip, openMarks, ?_, fun h => ?_, fun h => ?_, fun h => ?_,
      fun h => ?_, fun h => ?_, fun doze => ?_, fun run => ?_⟩
    · rw [lane]
    · rw [lane]; exact trackOffset_rises h
    · rw [lane]; exact trackOffset_falls h
    · rw [lane]; exact trackOffset_stands h
    · rw [lane]
      refine if_neg ?_
      rcases h with h | h | h <;> simp [Channel.openCounts, h]
    · rw [lane]
      refine if_neg ?_
      rcases h with h | h | h <;> simp [Channel.openCounts, h]
    · rw [doze]; exact ⟨rfl, rfl, rfl, rfl, rfl, rfl⟩
    · have counts : (s.channel n).openCounts s.modes.mode = (s.channel n).active.enabled := by
        simp [Channel.openCounts, run]
      rw [counts] at lane
      have hold := congrArg Lane.openHold lane
      have release := congrArg Lane.openRelease lane
      rw [run, Channel.frameEnd_run] at hold release ⊢
      refine ⟨rfl, rfl, fun e m => ?_, fun e m => ?_, Capture.frameEnd_eq _, ?_,
        fun count interval schedule mode fresh => ?_, fun absent => ?_, fun none => ?_,
        fun k drop => ?_⟩
      · exact hold.trans (if_pos (by simp [e, m]))
      · exact release.trans (if_pos (by simp [e, m]))
      · exact Channel.voiceFrameEnd_voice _
      · obtain ⟨boundary, between⟩ := Channel.reporterFrameEnd_periodic schedule mode fresh
        refine ⟨boundary, fun h => ?_⟩
        dsimp only
        rw [between h]
        exact ⟨Channel.steppedOutput_stepped _, rfl⟩
      · dsimp only
        rw [Channel.reporterFrameEnd_absent absent]
        exact ⟨Channel.steppedOutput_stepped _, rfl⟩
      · simp [GateLine.frameEnd, none]
      · simp [GateLine.frameEnd, drop]

end Sys2Proof.Machine
end

section
/-! How the shared operations change the markers of conditions and the queue: each is made of a few kinds of
change, and a law that those keep is kept by every operation (R152, R154). -/

namespace Sys2Proof.Machine

/-! ## The kinds of change -/

/-- The law of a string's two pairs of markers. -/
def Channel.MarkersLawful (c : Channel) : Prop := c.clip.lawful ∧ c.openMarks.lawful

/-- The state `t` is made of `s` by changes that leave the strings' markers lawful, the queue's account and
its reports of BACKLOG, records that join, refusals, and offered GLIDEs. -/
inductive Made : State → State → Prop where
  | refl (s : State) : Made s s
  | trans {s t u : State} : Made s t → Made t u → Made s u
  | strings {s t : State}
      (markers : ∀ n, (s.channel n).MarkersLawful → (t.channel n).MarkersLawful)
      (queue : t.queue = s.queue) (backlog : t.backlog = s.backlog) : Made s t
  | reserve (s : State) (k : Nat) : Made s (s.reserve k)
  | unreserve (s : State) (k : Nat) : Made s (s.unreserve k)
  | append (s : State) (r : Record) (h : ∀ n, r.isGlideOf n = false) : Made s (s.append r)
  | refuse (s : State) : Made s s.refuse
  | compare (s : State) : Made s (updateBacklog s)
  | glide (n : Str) (offset : Int) (s : State) : Made s (offerGlide n offset s)

theorem Made.mod {s : State} {n : Str} {f : Channel → Channel}
    (h : (s.channel n).MarkersLawful → (f (s.channel n)).MarkersLawful) : Made s (s.mod n f) := by
  refine .strings (fun m lawful => ?_) rfl rfl
  rw [State.channel_mod]
  split
  · next e => exact h (e ▸ lawful)
  · exact lawful

theorem Made.modAll {s : State} {f : Channel → Channel}
    (h : ∀ c : Channel, c.MarkersLawful → (f c).MarkersLawful) : Made s (s.modAll f) :=
  .strings (fun n lawful => by rw [State.channel_modAll]; exact h _ lawful) rfl rfl

theorem forStrings_made {op : Str → State → State} (h : ∀ n s, Made s (op n s)) (l : List Str)
    (s : State) : Made s (forStrings op l s) := by
  induction l generalizing s with
  | nil => exact .refl s
  | cons n l ih => exact (h n s).trans (ih _)

/-! ## The markers of a condition -/

theorem offerPlain_made {r : Record} (h : ∀ n, r.isGlideOf n = false) (s : State) :
    Made s (offerPlain r s) := by
  unfold offerPlain
  split
  · exact (Made.append s r h).trans (.compare _)
  · exact .refuse s

/-- Markers set together are lawful. -/
theorem Channel.MarkersLawful.setMarkers {c : Channel} (lawful : c.MarkersLawful) (k : StringKind)
    {m : Markers} (h : m.lawful) : (c.setMarkers k m).MarkersLawful := by
  cases k
  · exact ⟨h, lawful.2⟩
  · exact ⟨lawful.1, h⟩

theorem raiseCondition_made (k : StringKind) (n : Str) (s : State) :
    Made s (raiseCondition k n s) := by
  have raised (t : State) (m : Bool) :
      Made t (t.mod n (Channel.setMarkers k ⟨true, true, m⟩)) :=
    .mod fun lawful => lawful.setMarkers k ⟨fun _ => rfl, fun _ => rfl⟩
  cases a : ((s.channel n).markers k).active
  · obtain ⟨silent, admitted, refused⟩ := raiseCondition_of_inactive a
    cases l : s.latchesNow k n
    · rw [silent l]; exact raised s _
    · cases r : s.hasRoom 1
      · rw [refused l r]; exact (raised s _).trans (.refuse _)
      · rw [admitted l r]
        exact ((raised s _).trans (offerPlain_made (fun _ => rfl) _)).trans (raised _ _)
  · rw [raiseCondition_of_active a]; exact .refl s

/-- A condition that has ended and whose end is reported stands lawful, whatever its end mark was. -/
theorem reportEnd_made {k : StringKind} {n : Str} {s t : State}
    (queue : t.queue = s.queue) (backlog : t.backlog = s.backlog)
    (others : ∀ m, m ≠ n → (s.channel m).MarkersLawful → (t.channel m).MarkersLawful)
    (own : (s.channel n).MarkersLawful → ((t.channel n).setMarkers k
      { (t.channel n).markers k with endMark := false }).MarkersLawful) :
    Made s (reportEnd k n t) := by
  have cleared : Made s (t.mod n fun c => c.setMarkers k { c.markers k with endMark := false }) := by
    refine .strings (fun m lawful => ?_) queue backlog
    by_cases h : m = n
    · rw [h] at lawful ⊢
      rw [State.channel_mod_self]
      exact own lawful
    · rw [State.channel_mod_ne _ _ h]
      exact others m h lawful
  cases e : ((t.channel n).markers k).endMark
  · have same : t.mod n (fun c => c.setMarkers k { c.markers k with endMark := false }) = t := by
      refine State.mod_eq_self ?_
      rw [← e]
      cases k <;> rfl
    rw [same] at cleared
    simpa [reportEnd, e] using cleared
  · cases m : t.globals.reportMask.has k
    · simpa [reportEnd, e, m] using cleared
    · simp only [reportEnd, e, m, if_true]
      exact cleared.trans (offerPlain_made (fun _ => rfl) _)

theorem endClip_made (n : Str) (s : State) : Made s (endClip n s) := by
  unfold endClip
  dsimp only
  split
  · refine reportEnd_made rfl rfl (fun m h lawful => ?_) fun lawful => ?_
    · rw [clearActive, State.mod_mod, State.channel_mod_ne _ _ h]; exact lawful
    · rw [clearActive, State.mod_mod, State.channel_mod_self]
      exact ⟨⟨nofun, nofun⟩, lawful.2⟩
  · exact .refl s

/-! ## The voice, the reporter and the line -/

theorem offerNoteOn_made (n : Str) (base velocity : Nat) (offset : Int) (flag : NoteFlag)
    (s : State) : Made s (offerNoteOn n base velocity offset flag s) := by
  unfold offerNoteOn
  extract_lets serial t room
  split
  · exact (((Made.mod id).trans (.mod id)).trans (.reserve _ _)).trans
      ((Made.append _ _ fun _ => rfl).trans (.compare _))
  · exact (Made.mod id).trans (.refuse _)

theorem offerNoteOff_made (n : Str) (reason : OffReason) (s : State) :
    Made s (offerNoteOff n reason s) := by
  unfold offerNoteOff
  dsimp only
  split
  · exact ((Made.mod id).trans (.unreserve _ _)).trans
      ((Made.append _ _ fun _ => rfl).trans (.compare _))
  · exact .refl s

theorem offerPitchFix_made (n : Str) (base : Nat) (offset : Int) (s : State) :
    Made s (offerPitchFix n base offset s) := by
  unfold offerPitchFix
  dsimp only
  split
  · exact ((Made.mod id).trans (.unreserve _ _)).trans
      ((Made.append _ _ fun _ => rfl).trans (.compare _))
  · exact .refl s

theorem releaseFix_made (n : Str) (s : State) : Made s (releaseFix n s) := by
  unfold releaseFix
  split
  · exact ((Made.mod id).trans (.unreserve _ _)).trans (.compare _)
  · exact .refl s

theorem considerReport_made (n : Str) (offset : Int) (s : State) :
    Made s (considerReport n offset s) := by
  unfold considerReport
  dsimp only
  split
  · exact .glide ..
  · exact .refl s

theorem considerOutput_made (n : Str) (s : State) : Made s (considerOutput n s) := by
  unfold considerOutput
  split
  · exact considerReport_made ..
  · exact .refl s

theorem reportOnEstimate_made (n : Str) (s : State) : Made s (reportOnEstimate n s) := by
  unfold reportOnEstimate
  split
  · exact considerOutput_made n s
  · exact .refl s

theorem takeBoundary_made (n : Str) (s : State) : Made s (takeBoundary n s) := by
  unfold takeBoundary
  split
  · exact (Made.mod id).trans (considerOutput_made ..)
  · exact .refl s

theorem expireDrop_made (n : Str) (s : State) : Made s (expireDrop n s) := by
  unfold expireDrop
  split
  · exact .mod id
  · exact .refl s

/-- A commit leaves the conditions as they stand, or clear (R159). -/
theorem Channel.MarkersLawful.commit {c : Channel} (lawful : c.MarkersLawful) (damped : Bool) :
    (c.commit damped).MarkersLawful := by
  unfold Channel.commit
  dsimp only
  split
  · split <;> exact lawful
  · exact ⟨⟨nofun, nofun⟩, nofun, nofun⟩

theorem commitProfile_made (n : Str) (s : State) : Made s (commitProfile n s) :=
  .mod fun lawful => lawful.commit _

theorem enterQuiet_made (n : Str) (s : State) : Made s (enterQuiet n s) := by
  unfold enterQuiet
  dsimp only
  split
  · exact (Made.mod id).trans (commitProfile_made ..)
  · exact .mod id

theorem lowerLine_made (n : Str) (s : State) : Made s (lowerLine n s) := .mod id

theorem raiseLine_made (n : Str) (s : State) : Made s (raiseLine n s) :=
  .mod fun lawful => by dsimp only; split <;> exact lawful

theorem endNote_made (n : Str) (reason : OffReason) (s : State) : Made s (endNote n reason s) :=
  (offerNoteOff_made ..).trans (lowerLine_made ..)

theorem beginNote_made (n : Str) (base : Nat) (pitch : Option Nat) (offset : Int)
    (kind : StartKind) (flag : NoteFlag) (velocity : Nat) (s : State) :
    Made s (beginNote n base pitch offset kind flag velocity s) :=
  (offerNoteOn_made ..).trans (.mod id)

theorem tryBegin_made (n : Str) (s : State) : Made s (tryBegin n s) := by
  unfold tryBegin
  dsimp only
  split
  · split
    · exact (beginNote_made ..).trans (raiseLine_made ..)
    · split
      · exact (beginNote_made ..).trans (raiseLine_made ..)
      · exact .refl s
    · exact .refl s
  · exact .refl s

theorem voiceCompletion_made (n : Str) (value : Nat) (s : State) :
    Made s (voiceCompletion n value s) := by
  unfold voiceCompletion
  dsimp only
  split
  · exact (Made.mod id).trans (tryBegin_made ..)
  · exact .refl s

theorem estimateAcquiring_made (n : Str) (e : Estimate) (s : State) :
    Made s (estimateAcquiring n e s) := (Made.mod id).trans (tryBegin_made ..)

theorem settleStart_made (n : Str) (pitch : Nat) (s : State) : Made s (settleStart n pitch s) := by
  unfold settleStart
  dsimp only
  split
  · exact ((Made.mod id).trans (.mod id)).trans (offerPitchFix_made ..)
  · exact ((Made.mod id).trans (releaseFix_made ..)).trans (reportOnEstimate_made ..)

theorem nextNote_made (n : Str) (pitch : Nat) (reason : OffReason) (flag : NoteFlag) (s : State) :
    Made s (nextNote n pitch reason flag s) := (offerNoteOff_made ..).trans (beginNote_made ..)

theorem bendTest_made (n : Str) (pitch : Nat) (s : State) : Made s (bendTest n pitch s) := by
  unfold bendTest
  dsimp only
  split
  · exact (considerReport_made ..).trans (nextNote_made ..)
  · exact reportOnEstimate_made ..

theorem confirmCandidate_made (n : Str) (pitch : Nat) (s : State) :
    Made s (confirmCandidate n pitch s) := by
  unfold confirmCandidate
  dsimp only
  split
  · split
    · exact (Made.mod id).trans (bendTest_made ..)
    · exact (Made.mod id).trans (reportOnEstimate_made ..)
  · exact nextNote_made ..

theorem candidateTest_made (n : Str) (pitch : Nat) (s : State) :
    Made s (candidateTest n pitch s) := by
  unfold candidateTest
  dsimp only
  split
  · exact (Made.mod id).trans (confirmCandidate_made ..)
  · exact .mod id

theorem readEstimate_made (n : Str) (pitch : Nat) (s : State) : Made s (readEstimate n pitch s) := by
  unfold readEstimate
  dsimp only
  split
  · split
    · exact ((Made.mod id).trans (.mod id)).trans (reportOnEstimate_made ..)
    · exact (Made.mod id).trans (candidateTest_made ..)
  · exact ((Made.mod id).trans (.mod id)).trans (bendTest_made ..)
  · split
    · exact ((Made.mod id).trans (.mod id)).trans (bendTest_made ..)
    · exact (Made.mod id).trans (candidateTest_made ..)

theorem voiceEstimate_made (n : Str) (e : Estimate) (s : State) : Made s (voiceEstimate n e s) := by
  unfold voiceEstimate estimateSounding
  split
  · exact .mod id
  · exact estimateAcquiring_made ..
  · split
    · exact .refl s
    · split
      · exact readEstimate_made ..
      · exact settleStart_made ..
  all_goals exact .refl s

theorem voiceRelease_made (n : Str) (s : State) : Made s (voiceRelease n s) := by
  unfold voiceRelease
  split
  · exact (endNote_made ..).trans (enterQuiet_made ..)
  · exact enterQuiet_made n s
  · exact enterQuiet_made n s
  · exact enterQuiet_made n s
  all_goals exact .refl s

theorem expireAcquisition_made (n : Str) (s : State) : Made s (expireAcquisition n s) := by
  unfold expireAcquisition
  dsimp only
  split
  · exact (Made.mod id).trans (tryBegin_made ..)
  · exact .refl s

theorem expireStall_made (n : Str) (s : State) : Made s (expireStall n s) := by
  unfold expireStall
  dsimp only
  split
  · exact .mod id
  · exact .refl s

theorem expireLost_made (n : Str) (s : State) : Made s (expireLost n s) := by
  unfold expireLost
  dsimp only
  split
  · exact (endNote_made ..).trans (.mod id)
  · exact .refl s

/-! ## The bleed test and the detector -/

theorem bleedStep_made (n : Str) (s : State) : Made s (bleedStep n s) := by
  unfold bleedStep passSuspicion
  dsimp only
  split
  · exact .refl s
  · split
    · split
      · exact .refl s
      · split
        · exact .mod id
        · exact (Made.mod id).trans (estimateAcquiring_made ..)
    · split <;> exact .mod id

/-- A voice that takes an attack keeps its string's conditions. -/
theorem Made.restartedAnd (n : Str) (extension : Nat) (s : State) {f : Channel → Channel}
    (h : ∀ c : Channel, (f c).clip = c.clip ∧ (f c).openMarks = c.openMarks) :
    Made s ((restartRing n extension s).mod n f) := by
  refine (Made.mod id).trans (.mod fun lawful => ?_)
  unfold Channel.MarkersLawful
  rw [(h _).1, (h _).2]
  exact lawful

theorem voiceOnset_made (n : Str) (wakeMark : Bool) (s : State) :
    Made s (voiceOnset n wakeMark s) := by
  unfold voiceOnset
  split
  · exact .restartedAnd n _ s fun c => by split <;> exact ⟨rfl, rfl⟩
  · exact .refl s

theorem voiceRestrike_made (n : Str) (prior : Nat) (s : State) :
    Made s (voiceRestrike n prior s) := by
  unfold voiceRestrike
  dsimp only
  split
  · exact .restartedAnd n _ s fun c => by split <;> exact ⟨rfl, rfl⟩
  · split
    · exact .restartedAnd n _ s fun c => ⟨rfl, rfl⟩
    · exact .mod id
  · split
    · exact (endNote_made ..).trans (.restartedAnd n _ _ fun c => ⟨rfl, rfl⟩)
    · exact .refl s
  · exact .restartedAnd n _ s fun c => by split <;> exact ⟨rfl, rfl⟩
  all_goals exact .refl s

theorem modDetector_made (n : Str) (f : Channel → Detector) (s : State) :
    Made s (modDetector n f s) := .mod id

theorem attackGate_made {n : Str} {reference : Nat} {arrive : State → State} {s : State}
    (h : ∀ t, Made t (arrive t)) : Made s (attackGate n reference arrive s) :=
  (Made.mod id).trans (h _)

theorem releaseGate_made (n : Str) (s : State) : Made s (releaseGate n s) :=
  (Made.mod id).trans (voiceRelease_made ..)

theorem actOn_made (n : Str) (v : Verdict) (s : State) : Made s (actOn n v s) := by
  cases v <;> unfold actOn <;> dsimp only
  case stays => exact modDetector_made ..
  case clearsWait => exact modDetector_made ..
  case onset => exact attackGate_made fun t => voiceOnset_made n false t
  case entersDip => exact (modDetector_made ..).trans (modDetector_made ..)
  case flutter => exact (modDetector_made ..).trans (modDetector_made ..)
  case surge => exact attackGate_made fun t => voiceRestrike_made n _ t
  case restrike => exact attackGate_made fun t => voiceRestrike_made n _ t
  case release => exact releaseGate_made n s
  case releaseOnset =>
    split
    · exact (releaseGate_made n s).trans (attackGate_made fun t => voiceOnset_made n false t)
    · exact releaseGate_made n s

theorem judge_made (n : Str) (s : State) : Made s (judge n s) := by
  unfold judge
  dsimp only
  split
  · exact (modDetector_made ..).trans (actOn_made ..)
  · exact .refl s

theorem takeCompletion_made (n : Str) (s : State) : Made s (takeCompletion n s) := by
  unfold takeCompletion
  split
  · exact (modDetector_made ..).trans (voiceCompletion_made ..)
  · exact .refl s

theorem takeCrossing_made (n : Str) (s : State) : Made s (takeCrossing n s) := by
  unfold takeCrossing
  split
  · exact .mod id
  · exact .refl s

theorem takeEstimate_made (n : Str) (s : State) : Made s (takeEstimate n s) := by
  unfold takeEstimate
  split
  · exact (Made.mod id).trans (voiceEstimate_made ..)
  · exact .refl s

/-! ## Mutes -/

theorem addCause_made (cause : MuteCause) (n : Str) (s : State) : Made s (addCause cause n s) := by
  unfold addCause
  dsimp only
  split
  · exact .mod id
  · split
    · exact (endNote_made ..).trans (.mod id)
    · exact .mod id

theorem openBecomesActive_made (n : Str) (s : State) : Made s (openBecomesActive n s) := by
  unfold openBecomesActive
  dsimp only
  split
  · exact ((Made.mod id).trans (raiseCondition_made ..)).trans (addCause_made ..)
  · exact .refl s

/-- A voice's entry to QUIET leaves its conditions as they stand, or clear. -/
theorem enterQuiet_markers (n : Str) (s : State) :
    (enterQuiet n s).queue = s.queue ∧ (enterQuiet n s).backlog = s.backlog
    ∧ (((enterQuiet n s).channel n).clip = (s.channel n).clip
        ∧ ((enterQuiet n s).channel n).openMarks = (s.channel n).openMarks
      ∨ ((enterQuiet n s).channel n).clip = .clear
        ∧ ((enterQuiet n s).channel n).openMarks = .clear) := by
  unfold enterQuiet commitProfile
  dsimp only
  split
  · refine ⟨rfl, rfl, ?_⟩
    rw [State.mod_mod, State.channel_mod_self]
    unfold Channel.commit
    dsimp only
    split
    · split <;> exact .inl ⟨rfl, rfl⟩
    · exact .inr ⟨rfl, rfl⟩
  · refine ⟨rfl, rfl, ?_⟩
    rw [State.channel_mod_self]
    exact .inl ⟨rfl, rfl⟩

theorem removeCause_markers (cause : MuteCause) (n : Str) (s : State) :
    (removeCause cause n s).queue = s.queue ∧ (removeCause cause n s).backlog = s.backlog
    ∧ (((removeCause cause n s).channel n).clip = (s.channel n).clip
        ∧ ((removeCause cause n s).channel n).openMarks = (s.channel n).openMarks
      ∨ ((removeCause cause n s).channel n).clip = .clear
        ∧ ((removeCause cause n s).channel n).openMarks = .clear) := by
  unfold removeCause
  dsimp only
  split
  · split
    · exact ⟨rfl, rfl, .inl (by rw [State.channel_mod_self]; exact ⟨rfl, rfl⟩)⟩
    · split
      · obtain ⟨q, b, m⟩ := enterQuiet_markers n (s.mod n (.modVoice (.setCause cause false)))
        rw [State.channel_mod_self] at m
        exact ⟨q, b, m⟩
      · exact ⟨rfl, rfl, .inl (by rw [State.mod_mod, State.channel_mod_self]; exact ⟨rfl, rfl⟩)⟩
  · exact ⟨rfl, rfl, .inl ⟨rfl, rfl⟩⟩

theorem removeCause_made (cause : MuteCause) (n : Str) (s : State) :
    Made s (removeCause cause n s) := by
  unfold removeCause
  dsimp only
  split
  · split
    · exact .mod id
    · split
      · exact (Made.mod id).trans (enterQuiet_made ..)
      · exact (Made.mod id).trans (.mod id)
  · exact .refl s

theorem openBecomesInactive_made (n : Str) (s : State) : Made s (openBecomesInactive n s) := by
  unfold openBecomesInactive
  dsimp only
  split
  · set cleared := clearActive .openKind n (clearOpenCounts n s) with cleared_def
    have only : OnlyString n s cleared :=
      (mod_onlyString s n _).trans (clearActive_onlyString .openKind n _)
    have own : (cleared.channel n).clip = (s.channel n).clip
        ∧ (cleared.channel n).openMarks = { (s.channel n).openMarks with active := false } := by
      rw [cleared_def, clearActive, clearOpenCounts, State.mod_mod, State.channel_mod_self]
      exact ⟨rfl, rfl⟩
    obtain ⟨queue, backlog, markers⟩ := removeCause_markers .openCause n cleared
    refine reportEnd_made queue backlog (fun m h lawful => ?_) fun lawful => ?_
    · rw [(removeCause_onlyString .openCause n cleared).others m h, only.others m h]
      exact lawful
    · refine ⟨?_, ?_⟩
      · rcases markers with ⟨clip, -⟩ | ⟨clip, -⟩
        · exact (clip.trans own.1) ▸ lawful.1
        · exact clip ▸ ⟨nofun, nofun⟩
      · have inactive : ((removeCause .openCause n cleared).channel n).openMarks.active = false := by
          rcases markers with ⟨-, marks⟩ | ⟨-, marks⟩
          · rw [marks, own.2]
          · rw [marks]; rfl
        exact ⟨fun h => absurd (inactive.symm.trans h) nofun, nofun⟩
  · exact .refl s

end Sys2Proof.Machine
end

section
/-! The room that reports of BACKLOG may still take beside the records that are offered (R127, R136, R155), and
the law of the markers through every shared operation (R152, R154). -/

namespace Sys2Proof.Machine

/-! ## What the queue may come to hold -/

/-- The commitment with the one slot that a report of BACKLOG may still take: none comes any more once BACKLOG
has latched and either is inactive or stands at the high-water setting (R153 to R155). -/
def State.demand (s : State) : Nat :=
  s.queue.commitment
    + if s.backlog.latched = true ∧ (s.backlog.active = true → s.backlogNow = true) then 0 else 1

theorem State.demand_bounds (s : State) :
    s.queue.commitment ≤ s.demand ∧ s.demand ≤ s.queue.commitment + 1 := by
  unfold demand
  split <;> omega

theorem State.demand_of_settled {s : State} (l : s.backlog.latched = true)
    (h : s.backlog.active = true → s.backlogNow = true) : s.demand = s.queue.commitment :=
  congrArg (s.queue.commitment + ·) (if_pos ⟨l, h⟩)

theorem State.demand_of_open {s : State}
    (h : s.backlog.latched = false ∨ s.backlog.active = true ∧ s.backlogNow = false) :
    s.demand = s.queue.commitment + 1 := by
  refine congrArg (s.queue.commitment + ·) (if_neg fun settled => ?_)
  rcases h with l | ⟨a, r⟩
  · exact Bool.false_ne_true (l.symm.trans settled.1)
  · exact Bool.false_ne_true (r.symm.trans (settled.2 a))

@[simp] theorem Queue.commitment_push (q : Queue) (r : Record) :
    (q.push r).commitment = q.commitment + 1 := by
  simp [push, commitment]; omega

/-- A record that joins the list adds one to the demand at most. -/
theorem append_demand (s : State) (r : Record) : (s.append r).demand ≤ s.demand + 1 := by
  by_cases settled : s.backlog.latched = true ∧ (s.backlog.active = true → s.backlogNow = true)
  · have still : (s.append r).backlog.active = true → (s.append r).backlogNow = true := by
      intro a
      have reached : s.globals.highWater ≤ s.queue.commitment := of_decide_eq_true (settled.2 a)
      simpa [State.backlogNow] using Nat.le_succ_of_le reached
    rw [State.demand_of_settled settled.1 settled.2, State.demand_of_settled (s := s.append r) settled.1 still]
    exact (Queue.commitment_push ..).le
  · have was : s.demand = s.queue.commitment + 1 := congrArg (s.queue.commitment + ·) (if_neg settled)
    have now := (s.append r).demand_bounds.2
    rw [State.queue_append, Queue.commitment_push] at now
    omega

/-- BACKLOG reported active stays within the demand, and is lawful. -/
theorem activateBacklog_demand {s : State} (now : s.backlogNow = true) :
    (activateBacklog s).backlog.lawful ∧ (activateBacklog s).demand ≤ s.demand := by
  obtain ⟨-, -, -, active, reached⟩ := activateBacklog_account s
  obtain ⟨silent, admitted, refused⟩ := activateBacklog_reported s
  have stands := s.demand_bounds.1
  have latches : (activateBacklog s).backlog.latched = true
      ∧ (activateBacklog s).queue.commitment ≤ s.demand := by
    cases m : s.globals.reportMask.backlog
    · rw [silent (.inr m)]; exact ⟨rfl, stands⟩
    · cases l : s.backlog.latched
      · cases r : s.hasRoom 1
        · rw [refused l m r]; exact ⟨rfl, stands⟩
        · rw [admitted l m r, State.demand_of_open (.inl l)]
          exact ⟨rfl, (Queue.commitment_push ..).le⟩
      · rw [silent (.inl l)]; exact ⟨rfl, stands⟩
  rw [State.demand_of_settled latches.1 fun _ => reached now]
  exact ⟨⟨fun _ => latches.1, fun _ => active⟩, latches.2⟩

/-- BACKLOG reported inactive stays within the demand, and is lawful. -/
theorem deactivateBacklog_demand {s : State} (lawful : s.backlog.lawful)
    (active : s.backlog.active = true) (now : s.backlogNow = false) :
    (deactivateBacklog s).backlog.lawful ∧ (deactivateBacklog s).demand ≤ s.demand := by
  have compared := (deactivateBacklog_account s).2.2.2 now
  obtain ⟨silent, refused, admitted⟩ := deactivateBacklog_reported s
  have latched := lawful.1 active
  rw [State.demand_of_open (s := s) (.inr ⟨active, now⟩)]
  have ended : (deactivateBacklog s).backlog.latched = true
      ∧ (deactivateBacklog s).backlog.endMark = false
      ∧ (deactivateBacklog s).queue.commitment ≤ s.queue.commitment + 1 := by
    cases m : s.globals.reportMask.backlog
    · rw [silent (.inr m)]; exact ⟨latched, rfl, Nat.le_succ _⟩
    · cases e : s.backlog.endMark
      · rw [silent (.inl e)]; exact ⟨latched, rfl, Nat.le_succ _⟩
      · cases r : s.hasRoom 1
        · rw [refused e m r]; exact ⟨latched, rfl, Nat.le_succ _⟩
        · rw [admitted e m r latched]; exact ⟨rfl, rfl, (Queue.commitment_push ..).le⟩
  obtain ⟨latches, unmarked, within⟩ := ended
  rw [State.demand_of_settled latches fun a => compared ▸ a]
  exact ⟨⟨fun _ => latches, fun e => absurd (unmarked.symm.trans e) nofun⟩, within⟩

/-- The comparison keeps the markers of BACKLOG lawful and stays within the demand. -/
theorem updateBacklog_demand {s : State} (lawful : s.backlog.lawful) :
    (updateBacklog s).backlog.lawful ∧ (updateBacklog s).demand ≤ s.demand := by
  unfold updateBacklog
  cases now : s.backlogNow <;> cases active : s.backlog.active
  · exact ⟨lawful, le_rfl⟩
  · exact deactivateBacklog_demand lawful active now
  · exact activateBacklog_demand now
  · exact ⟨lawful, le_rfl⟩

/-- An offered CONDITION or NOTICE adds one to the demand at most. -/
theorem offerPlain_demand {s : State} (lawful : s.backlog.lawful) (r : Record) :
    (offerPlain r s).backlog.lawful ∧ (offerPlain r s).demand ≤ s.demand + 1 := by
  unfold offerPlain
  split
  · obtain ⟨kept, within⟩ := updateBacklog_demand (s := s.append r) lawful
    exact ⟨kept, within.trans (append_demand s r)⟩
  · exact ⟨lawful, Nat.le_succ _⟩

/-! ## The law of the markers -/

theorem mod_conditionLaw {s : State} {n : Str} {f : Channel → Channel} (law : ConditionLaw s)
    (h : (s.channel n).MarkersLawful → (f (s.channel n)).MarkersLawful) :
    ConditionLaw (s.mod n f) := by
  refine ⟨fun m => ?_, law.2⟩
  rw [State.channel_mod]
  split
  · exact h (law.1 n)
  · exact law.1 m

/-- What is made of a state of lawful markers has lawful markers. -/
theorem Made.conditionLaw {s t : State} (made : Made s t) (law : ConditionLaw s) : ConditionLaw t := by
  have compared {s : State} (law : ConditionLaw s) : ConditionLaw (updateBacklog s) :=
    ⟨fun n => by rw [updateBacklog_channel]; exact law.1 n, (updateBacklog_demand law.2).1⟩
  induction made with
  | refl => exact law
  | trans _ _ first second => exact second (first law)
  | strings markers _ backlog => exact ⟨fun n => markers n (law.1 n), backlog ▸ law.2⟩
  | reserve => exact law
  | unreserve => exact law
  | append => exact law
  | refuse => exact law
  | compare => exact compared law
  | glide n offset s =>
    have told : ConditionLaw (s.mod n fun c =>
        { c with reporter := { c.reporter with lastReported := some offset } }) :=
      mod_conditionLaw law id
    unfold offerGlide
    cases glideAnswer n s
    case merged => exact told
    case admitted => exact compared told
    case dropped => exact law

end Sys2Proof.Machine
end

section
/-! What SAMPLE finds due at the instant before it, as the steps that take it in the model's order (log 4), and
the law of the markers through them. -/

namespace Sys2Proof.Machine

/-! ## The operations of the whole part -/

theorem forEnabled_outside {op : Str → State → State} (h : ∀ n s, Outside s (op n s)) (s : State) :
    Outside s (forEnabled op s) :=
  forStrings_outside _ (fun n t => by split; exacts [h n t, .refl t]) _ s

theorem forEnabled_made {op : Str → State → State} (h : ∀ n s, Made s (op n s)) (s : State) :
    Made s (forEnabled op s) :=
  forStrings_made (fun n t => by split; exacts [h n t, .refl t]) _ s

/-- A change of the shared registers alone leaves the strings, the queue and BACKLOG. -/
theorem Made.shared {s t : State} (c : t.channels = s.channels) (q : t.queue = s.queue)
    (b : t.backlog = s.backlog) : Made s t :=
  .strings (fun n lawful => by rwa [← State.get_channels, c]) q b

theorem Made.of_shared {s s' t : State} (m : Made s' t) (c : s'.channels = s.channels)
    (q : s'.queue = s.queue) (b : s'.backlog = s.backlog) : Made s t := (Made.shared c q b).trans m

theorem dampComes_made (s : State) : Made s (dampComes s) ∧ (dampComes s).modes = s.modes := by
  unfold dampComes
  have offered := offerPlain_made (r := .notice .dampOn) (fun _ => rfl) s
  have modes := (offerPlain_queueOnly (.notice .dampOn) s).outside.modes
  generalize offerPlain (.notice .dampOn) s = t at offered modes
  refine ⟨offered.trans (.of_shared (forEnabled_made (addCause_made .damp) _) rfl rfl rfl), ?_⟩
  exact (forEnabled_outside (fun n t => (addCause_onlyString .damp n t).outside) _).modes.trans modes

theorem dampEnds_made (s : State) : Made s (dampEnds s) ∧ (dampEnds s).modes = s.modes := by
  unfold dampEnds
  have removed := forEnabled_made (removeCause_made .damp)
    { s with mute := { s.mute with inForce := false } }
  have modes := (forEnabled_outside (fun n t => (removeCause_onlyString .damp n t).outside)
    { s with mute := { s.mute with inForce := false } }).modes
  generalize forEnabled (removeCause .damp) _ = t at removed modes
  exact ⟨.of_shared (removed.trans (offerPlain_made (fun _ => rfl) t)) rfl rfl rfl,
    (offerPlain_queueOnly _ t).outside.modes.trans modes⟩

/-- The damp mute brought into force or ended keeps the modes, and every law of what it is made of. -/
theorem setDampMute_made (wanted : Bool) (s : State) :
    Made s (setDampMute wanted s) ∧ (setDampMute wanted s).modes = s.modes := by
  unfold setDampMute
  split
  · exact ⟨.refl s, rfl⟩
  · split
    · exact dampComes_made s
    · exact dampEnds_made s

theorem dampAsserted_made (s : State) :
    Made s (dampAsserted s) ∧ (dampAsserted s).modes = s.modes := by
  unfold dampAsserted
  split
  · dsimp only
    split
    · exact ⟨.shared rfl rfl rfl, rfl⟩
    · exact ⟨.of_shared (setDampMute_made ..).1 rfl rfl rfl, (setDampMute_made ..).2⟩
    · exact ⟨.of_shared (setDampMute_made ..).1 rfl rfl rfl, (setDampMute_made ..).2⟩
  · exact ⟨.refl s, rfl⟩

theorem dampDeasserted_made (s : State) :
    Made s (dampDeasserted s) ∧ (dampDeasserted s).modes = s.modes := by
  unfold dampDeasserted
  split
  · dsimp only
    split
    · exact ⟨.of_shared (setDampMute_made ..).1 rfl rfl rfl, (setDampMute_made ..).2⟩
    · exact ⟨.shared rfl rfl rfl, rfl⟩
    · exact ⟨.shared rfl rfl rfl, rfl⟩
  · exact ⟨.refl s, rfl⟩

theorem dozeVoice_made (n : Str) (s : State) : Made s (dozeVoice n s) := by
  unfold dozeVoice
  split
  · exact (offerNoteOff_made ..).trans (enterQuiet_made ..)
  · exact enterQuiet_made n s
  · exact enterQuiet_made n s
  · exact enterQuiet_made n s
  all_goals exact .refl s

theorem modAll_made (s : State) {f : Channel → Channel}
    (h : ∀ c : Channel, (f c).clip = c.clip ∧ (f c).openMarks = c.openMarks) :
    Made s (s.modAll f) :=
  .modAll fun c lawful => by
    unfold Channel.MarkersLawful
    rw [(h c).1, (h c).2]
    exact lawful

/-- Doze entry leaves RESET_N as it is, and every law of what it is made of. -/
theorem enterDoze_made (s : State) :
    Made s (enterDoze s) ∧ (enterDoze s).modes.resetPinLow = s.modes.resetPinLow := by
  unfold enterDoze
  have judged := forStrings_made takeCompletion_made Str.all s
  have modes := (forStrings_outside _ (fun n t => (takeCompletion_onlyString n t).outside)
    Str.all s).modes
  generalize forStrings takeCompletion Str.all s = t at judged modes
  have closed (u : State) : Made u (u.modAll fun c => { c with detector := c.detector.doze }) :=
    modAll_made u fun _ => ⟨rfl, rfl⟩
  have left (u : State) : Made u (u.modAll Channel.dozeBlocks) := modAll_made u fun _ => ⟨rfl, rfl⟩
  refine ⟨judged.trans (.of_shared (((closed _).trans (forStrings_made dozeVoice_made _ _)).trans
    ((left _).trans (offerPlain_made (fun _ => rfl) _))) rfl rfl rfl), ?_⟩
  rw [(offerPlain_queueOnly _ _).outside.modes, State.modes_modAll,
    (forStrings_outside _ (fun n t => (dozeVoice_onlyString n t).outside) _ _).modes,
    State.modes_modAll]
  have pin : t.modes.resetPinLow = s.modes.resetPinLow := congrArg Modes.resetPinLow modes
  exact pin

theorem idleDoze_made (s : State) :
    Made s (idleDoze s) ∧ (idleDoze s).modes.resetPinLow = s.modes.resetPinLow := by
  unfold idleDoze
  split
  · exact enterDoze_made s
  · exact ⟨.refl s, rfl⟩

theorem returnToRun_made (cause : WakeCause) (s : State) :
    Made s (returnToRun cause s)
    ∧ (returnToRun cause s).modes.resetPinLow = s.modes.resetPinLow := by
  unfold returnToRun
  refine ⟨.of_shared (offerPlain_made (fun _ => rfl) _) rfl rfl rfl, ?_⟩
  rw [(offerPlain_queueOnly _ _).outside.modes]

theorem wakeString_made (n : Str) (s : State) : Made s (wakeString n s) :=
  attackGate_made fun t => voiceOnset_made n true t

theorem wakeString_onlyString (n : Str) (s : State) : OnlyString n s (wakeString n s) :=
  attackGate_onlyString n _ _ s fun t => voiceOnset_onlyString n true t

/-- A wake by string leaves RESET_N as it is, and every law of what it is made of. -/
theorem wakeByString_made (order : List Str) (s : State) :
    Made s (wakeByString order s)
    ∧ (wakeByString order s).modes.resetPinLow = s.modes.resetPinLow := by
  unfold wakeByString
  split
  · split
    · exact ⟨.shared rfl rfl rfl, rfl⟩
    · next lowest _ _ =>
      dsimp only
      obtain ⟨woken, pin⟩ := returnToRun_made (.string lowest) s
      generalize returnToRun (.string lowest) s = t at woken pin
      refine ⟨.trans ?_ (forStrings_made wakeString_made _ _), ?_⟩
      · exact woken.trans (modAll_made t fun _ => ⟨rfl, rfl⟩)
      · rw [(forStrings_outside _ (fun n u => (wakeString_onlyString n u).outside) _ _).modes,
          State.modes_modAll]
        exact pin
  · exact ⟨.refl s, rfl⟩

theorem endStart_made (s : State) :
    Made s (endStart s) ∧ (endStart s).modes.resetPinLow = s.modes.resetPinLow := by
  unfold endStart
  split
  · dsimp only
    have measured : Made s (s.modAll fun c => { c with lane := c.lane.startEnd }) :=
      modAll_made s fun _ => ⟨rfl, rfl⟩
    have modes : (s.modAll fun c => { c with lane := c.lane.startEnd }).modes = s.modes := rfl
    generalize (s.modAll fun c => { c with lane := c.lane.startEnd }) = t at measured modes
    have quiet := measured.trans (forStrings_made enterQuiet_made Str.all t)
    have quietModes := (forStrings_outside _ (fun n t => (enterQuiet_onlyString n t).outside)
      Str.all t).modes.trans modes
    generalize forStrings enterQuiet Str.all t = u at quiet quietModes
    have greeted := quiet.trans
      (offerPlain_made (r := .notice (.hello s.modes.causes)) (fun _ => rfl) u)
    have greetedModes := (offerPlain_queueOnly (.notice (.hello s.modes.causes)) u).outside.modes.trans
      quietModes
    generalize offerPlain (.notice (.hello s.modes.causes)) u = v at greeted greetedModes
    exact ⟨greeted.trans (.shared rfl rfl rfl), congrArg Modes.resetPinLow greetedModes⟩
  · exact ⟨.refl s, rfl⟩

theorem takeFrameEnd_made (damp : Bool) (s : State) :
    Made s (takeFrameEnd damp s)
    ∧ (takeFrameEnd damp s).modes.resetPinLow = s.modes.resetPinLow := by
  unfold takeFrameEnd
  dsimp only
  split
  · rw [modeFrameEnd_only]
    constructor
    · refine .strings (fun n lawful => ?_) rfl rfl
      obtain ⟨-, -, -, clip, openMarks⟩ := Channel.frameEnd_settings s.modes.mode (s.channel n)
      simpa [Channel.MarkersLawful, clip, openMarks] using lawful
    · unfold modeFrameEnd idleFrameEnd
      split
      · rfl
      · dsimp only; split <;> rfl
      · rfl
  · exact ⟨.refl s, rfl⟩

theorem byteTimeout_made (s : State) :
    Made s (byteTimeout s) ∧ (byteTimeout s).modes = s.modes := by
  unfold byteTimeout
  split
  · exact ⟨.shared rfl rfl rfl, rfl⟩
  · exact ⟨.refl s, rfl⟩

/-! ## A restart that is due -/

theorem settleRestart_pins (s : State) :
    (settleRestart s).modes.resetPinLow = s.modes.resetPinLow
    ∧ (settleRestart s).mute.pin = s.mute.pin := by
  unfold settleRestart restartReset
  split
  · split <;> exact ⟨rfl, rfl⟩
  · exact ⟨rfl, rfl⟩

theorem settleRestart_conditionLaw {s : State} (law : ConditionLaw s) :
    ConditionLaw (settleRestart s) := by
  have clear : Markers.clear.lawful := ⟨nofun, nofun⟩
  unfold settleRestart restartReset
  split
  · split
    · refine ⟨fun n => ?_, clear⟩
      rw [State.afterReset, State.channel_mk, Eight.get_of]
      exact ⟨clear, clear⟩
    · exact law
  · exact law

/-! ## Runs of steps -/

theorem runs_append {l k : List Instr} {s t u : State} (h : Runs l s t) (g : Runs k t u) :
    Runs (l ++ k) s u := by
  induction l generalizing s with
  | nil => rw [← show t = s from h]; exact g
  | cons i l ih =>
    obtain ⟨v, taken, rest⟩ := h
    exact ⟨v, taken, ih rest⟩

/-- A step that acts while RESET_N is released makes its operation. -/
theorem runs_cons {i : Instr} {op : State → State} {l : List Instr} {s t : State}
    (arm : ∀ s, exec i s = .next (s.live op)) (released : s.modes.resetPinLow = false)
    (rest : Runs l (op s) t) : Runs (i :: l) s t :=
  ⟨op s, (arm s).trans (congrArg _ (State.live_of_released released op)), rest⟩

theorem OnlyString.released {n : Str} {s t : State} (h : OnlyString n s t)
    (r : s.modes.resetPinLow = false) : t.modes.resetPinLow = false := by rw [h.outside.modes, r]

/-- The steps of an operation on each string of a list make the operation on the list. -/
theorem runs_strings {steps : Str → List Instr} {op : Str → State → State} {s : State}
    (released : s.modes.resetPinLow = false)
    (h : ∀ n s, s.modes.resetPinLow = false → Runs (steps n) s (op n s))
    (reach : ∀ n s, OnlyString n s (op n s)) (l : List Str) :
    Runs (l.flatMap steps) s (forStrings op l s)
    ∧ (forStrings op l s).modes.resetPinLow = false := by
  induction l generalizing s with
  | nil => exact ⟨rfl, released⟩
  | cons n l ih =>
    obtain ⟨runs, still⟩ := ih ((reach n s).released released)
    exact ⟨runs_append (h n s released) runs, still⟩

/-! ## What is owed, part by part -/

theorem runs_settleRestart {s : State} (released : s.modes.resetPinLow = false) :
    Runs (if s.modes.restart = .replySent then [.restartReset s.link.straps] else []) s
      (settleRestart s) := by
  unfold settleRestart
  split
  · exact runs_cons (op := restartReset s.link.straps) (fun _ => rfl) released rfl
  · rfl

theorem runs_estimates (n : Str) (s : State) (released : s.modes.resetPinLow = false) :
    Runs [.crossing n, .estimate n] s (takeEstimate n (takeCrossing n s)) := by
  have crossed := (takeCrossing_onlyString n s).released released
  exact runs_cons (op := takeCrossing n) (fun _ => rfl) released
    (runs_cons (op := takeEstimate n) (fun _ => rfl) crossed rfl)

theorem runs_settleFrame {s : State} (released : s.modes.resetPinLow = false) :
    Runs [.frameEnd s.mute.pin, .startEnd, .interByteTimeout] s (settleFrame s)
    ∧ (settleFrame s).modes.resetPinLow = false := by
  have ended := (takeFrameEnd_made s.mute.pin s).2.trans released
  have started := (endStart_made _).2.trans ended
  exact ⟨runs_cons (op := takeFrameEnd s.mute.pin) (fun _ => rfl) released
    (runs_cons (op := endStart) (fun _ => rfl) ended
      (runs_cons (op := byteTimeout) (fun _ => rfl) started rfl)),
    (congrArg Modes.resetPinLow (byteTimeout_made _).2).trans started⟩

theorem runs_conditions (n : Str) (s : State) (released : s.modes.resetPinLow = false) :
    Runs [.clipEnd n, .openEnd n, .openActive n] s
      (openBecomesActive n (openBecomesInactive n (endClip n s))) := by
  have ended := (endClip_onlyString n s).released released
  have closed := (openBecomesInactive_onlyString n _).released ended
  exact runs_cons (op := endClip n) (fun _ => rfl) released
    (runs_cons (op := openBecomesInactive n) (fun _ => rfl) ended
      (runs_cons (op := openBecomesActive n) (fun _ => rfl) closed rfl))

theorem runs_judgements (n : Str) (s : State) (released : s.modes.resetPinLow = false) :
    Runs [.articulationJudgement n, .velocityCompletion n] s (takeCompletion n (judge n s)) := by
  have judged := (judge_onlyString n s).released released
  exact runs_cons (op := judge n) (fun _ => rfl) released
    (runs_cons (op := takeCompletion n) (fun _ => rfl) judged rfl)

theorem runs_settleDetection {s : State} (released : s.modes.resetPinLow = false) :
    Runs (Str.all.flatMap (fun n => [.clipEnd n, .openEnd n, .openActive n])
      ++ Str.all.flatMap (fun n => [.articulationJudgement n, .velocityCompletion n])) s
      (settleDetection s)
    ∧ (settleDetection s).modes.resetPinLow = false := by
  obtain ⟨conditions, still⟩ := runs_strings released runs_conditions
    (fun n t => ((endClip_onlyString n t).trans (openBecomesInactive_onlyString n _)).trans
      (openBecomesActive_onlyString n _)) Str.all
  obtain ⟨judgements, after⟩ := runs_strings still runs_judgements
    (fun n t => (judge_onlyString n t).trans (takeCompletion_onlyString n _)) Str.all
  unfold settleDetection
  dsimp only
  exact ⟨runs_append conditions judgements, after⟩

theorem runs_voiceTimers (n : Str) (s : State) (released : s.modes.resetPinLow = false) :
    Runs [.bleedPerFrameStep n, .acquisitionExpiry n, .stallExpiry n, .lostLimitExpiry n] s
      (expireLost n (expireStall n (expireAcquisition n (bleedStep n s)))) := by
  have stepped := (bleedStep_onlyString n s).released released
  have acquired := (expireAcquisition_onlyString n _).released stepped
  have stalled := (expireStall_onlyString n _).released acquired
  exact runs_cons (op := bleedStep n) (fun _ => rfl) released
    (runs_cons (op := expireAcquisition n) (fun _ => rfl) stepped
      (runs_cons (op := expireStall n) (fun _ => rfl) acquired
        (runs_cons (op := expireLost n) (fun _ => rfl) stalled rfl)))

theorem runs_lines (n : Str) (s : State) (released : s.modes.resetPinLow = false) :
    Runs [.glideBoundary n, .retriggerDropExpiry n] s (expireDrop n (takeBoundary n s)) := by
  have bound := (takeBoundary_onlyString n s).released released
  exact runs_cons (op := takeBoundary n) (fun _ => rfl) released
    (runs_cons (op := expireDrop n) (fun _ => rfl) bound rfl)

theorem runs_settleTimers {s : State} (released : s.modes.resetPinLow = false) :
    Runs (Str.all.flatMap (fun n =>
        [.bleedPerFrameStep n, .acquisitionExpiry n, .stallExpiry n, .lostLimitExpiry n])
      ++ Str.all.flatMap (fun n => [.glideBoundary n, .retriggerDropExpiry n])) s
      (settleTimers s)
    ∧ (settleTimers s).modes.resetPinLow = false := by
  obtain ⟨voices, still⟩ := runs_strings released runs_voiceTimers
    (fun n t => (((bleedStep_onlyString n t).trans (expireAcquisition_onlyString n _)).trans
      (expireStall_onlyString n _)).trans (expireLost_onlyString n _)) Str.all
  obtain ⟨lines, after⟩ := runs_strings still runs_lines
    (fun n t => (takeBoundary_onlyString n t).trans (expireDrop_onlyString n _)) Str.all
  unfold settleTimers
  dsimp only
  exact ⟨runs_append voices lines, after⟩

theorem runs_settleModes {s : State} (released : s.modes.resetPinLow = false) :
    Runs ([.dampAssertion, .dampDeassertion, .idleDoze, .wakeByString []]
      ++ Str.all.map .velocityCompletion) s (settleModes s) := by
  have asserted := (congrArg Modes.resetPinLow (dampAsserted_made s).2).trans released
  have deasserted := (congrArg Modes.resetPinLow (dampDeasserted_made _).2).trans asserted
  have dozing := (idleDoze_made _).2.trans deasserted
  have woken := (wakeByString_made [] _).2.trans dozing
  have modes : Runs [.dampAssertion, .dampDeassertion, .idleDoze, .wakeByString []] s
      (wakeByString [] (idleDoze (dampDeasserted (dampAsserted s)))) :=
    runs_cons (op := dampAsserted) (fun _ => rfl) released
    (runs_cons (op := dampDeasserted) (fun _ => rfl) asserted
      (runs_cons (op := idleDoze) (fun _ => rfl) deasserted
        (runs_cons (op := wakeByString []) (fun _ => rfl) dozing rfl)))
  have completions := (runs_strings (steps := fun n => [.velocityCompletion n]) woken
    (fun n t r => runs_cons (op := takeCompletion n) (fun _ => rfl) r rfl)
    (fun n t => takeCompletion_onlyString n t) Str.all).1
  rw [List.map_eq_flatMap]
  exact runs_append modes completions

/-- The owed steps, taken in their order, leave what SAMPLE starts from (log 4). -/
theorem runs_owedSteps {s : State} (released : s.modes.resetPinLow = false) :
    Runs (owedSteps s) s (settle s) := by
  have restarted := (settleRestart_pins s).1.trans released
  have estimateReach (n : Str) (t : State) := (takeCrossing_onlyString n t).trans
    (takeEstimate_onlyString n _)
  obtain ⟨estimates, estimated⟩ := runs_strings restarted runs_estimates estimateReach Str.all
  have pin : (forStrings (fun n t => takeEstimate n (takeCrossing n t)) Str.all
      (settleRestart s)).mute.pin = s.mute.pin :=
    (congrArg Mute.pin (forStrings_outside _ (fun n t => (estimateReach n t).outside) _ _).mute).trans
      (settleRestart_pins s).2
  obtain ⟨frame, framed⟩ := runs_settleFrame estimated
  rw [pin] at frame
  obtain ⟨detection, detected⟩ := runs_settleDetection framed
  obtain ⟨timers, timed⟩ := runs_settleTimers detected
  have modes := runs_settleModes timed
  have all := runs_append (runs_settleRestart released) (runs_append estimates
    (runs_append frame (runs_append detection (runs_append timers modes))))
  simpa only [owedSteps, List.append_assoc, settle] using all

/-! ## The law of the markers through what is owed -/

theorem settleDetection_made (s : State) : Made s (settleDetection s) :=
  (forStrings_made (fun n t => ((endClip_made n t).trans (openBecomesInactive_made n _)).trans
    (openBecomesActive_made n _)) Str.all s).trans
    (forStrings_made (fun n t => (judge_made n t).trans (takeCompletion_made n _)) Str.all _)

theorem settleTimers_made (s : State) : Made s (settleTimers s) :=
  (forStrings_made (fun n t => (((bleedStep_made n t).trans (expireAcquisition_made n _)).trans
    (expireStall_made n _)).trans (expireLost_made n _)) Str.all s).trans
    (forStrings_made (fun n t => (takeBoundary_made n t).trans (expireDrop_made n _)) Str.all _)

theorem settleModes_made (s : State) : Made s (settleModes s) :=
  ((((dampAsserted_made s).1.trans (dampDeasserted_made _).1).trans (idleDoze_made _).1).trans
    (wakeByString_made [] _).1).trans (forStrings_made takeCompletion_made Str.all _)

theorem settleFrame_made (s : State) : Made s (settleFrame s) :=
  ((takeFrameEnd_made s.mute.pin s).1.trans (endStart_made _).1).trans (byteTimeout_made _).1

/-- Taking what is due keeps the markers lawful (R152, R154). -/
theorem settle_conditionLaw {s : State} (law : ConditionLaw s) : ConditionLaw (settle s) := by
  have estimated := forStrings_made
    (fun n t => (takeCrossing_made n t).trans (takeEstimate_made n _)) Str.all (settleRestart s)
  have made := (((estimated.trans (settleFrame_made _)).trans (settleDetection_made _)).trans
    (settleTimers_made _)).trans (settleModes_made _)
  exact made.conditionLaw (settleRestart_conditionLaw law)

end Sys2Proof.Machine
end

section
/-! CLIP raised on the strings of a sample, in an order: which of its records the queue admits (R12, R131, R152,
R153). -/

namespace Sys2Proof.Machine

/-! ## What an offer keeps -/

/-- An offer never lessens the commitment, and DROPPED stays set (R133). -/
theorem offerPlain_grows (r : Record) (s : State) :
    s.queue.commitment ≤ (offerPlain r s).queue.commitment
    ∧ (s.queue.dropped = true → (offerPlain r s).queue.dropped = true) := by
  unfold offerPlain
  split
  · obtain ⟨reserved, -, dropped, -⟩ := updateBacklog_account (s.append r)
    obtain ⟨⟨extra, records, -⟩, -⟩ := updateBacklog_joined (s.append r)
    refine ⟨?_, dropped⟩
    simp only [Queue.commitment, records, reserved, State.queue_append, Queue.push,
      List.length_append]
    omega
  · exact ⟨le_rfl, fun _ => rfl⟩

/-- How a condition raised on an inactive pair moves the queue's account: nothing is given back, and the
demand rises by one at most, and only where a record is offered. -/
theorem raiseCondition_demand {k : StringKind} {n : Str} {s : State}
    (h : ((s.channel n).markers k).active = false) :
    s.queue.commitment ≤ (raiseCondition k n s).queue.commitment
    ∧ (s.queue.dropped = true → (raiseCondition k n s).queue.dropped = true)
    ∧ (s.backlog.lawful → (raiseCondition k n s).backlog.lawful
      ∧ (raiseCondition k n s).demand ≤ s.demand + (s.latchesNow k n).toNat) := by
  obtain ⟨silent, admitted, refused⟩ := raiseCondition_of_inactive h
  cases l : s.latchesNow k n
  · rw [silent l]
    exact ⟨le_rfl, id, fun lawful => ⟨lawful, le_rfl⟩⟩
  · cases r : s.hasRoom 1
    · rw [refused l r]
      exact ⟨le_rfl, fun _ => rfl, fun lawful => ⟨lawful, Nat.le_succ _⟩⟩
    · rw [admitted l r]
      obtain ⟨grows, dropped⟩ := offerPlain_grows (.condition (.string k n) true)
        (s.mod n (Channel.setMarkers k ⟨true, true, ((s.channel n).markers k).endMark⟩))
      exact ⟨grows, dropped, fun lawful => offerPlain_demand
        (s := s.mod n (Channel.setMarkers k ⟨true, true, ((s.channel n).markers k).endMark⟩))
        lawful _⟩

/-! ## CLIP on one string -/

/-- CLIP becomes active on the string at this sample (R12). -/
def State.clips (signals : Eight Int) (s : State) (n : Str) : Bool :=
  s.modes.mode != .start && (s.channel n).active.enabled
    && atLimit ((s.channel n).raw (signals.get n)) && !(s.channel n).clip.active

/-- CLIP latches on the string at this sample under the report mask, and so offers its record (R153). -/
def State.reportsClip (signals : Eight Int) (s : State) (n : Str) : Bool :=
  s.clips signals n && s.latchesNow .clip n

theorem clipAtSample_of_clips {signals : Eight Int} {s : State} {n : Str}
    (h : s.clips signals n = true) :
    clipAtSample signals n s = raiseCondition .clip n s
    ∧ ((s.channel n).markers .clip).active = false := by
  simp only [State.clips, Bool.and_eq_true, bne_iff_ne, Bool.not_eq_true'] at h
  obtain ⟨⟨⟨mode, enabled⟩, limit⟩, inactive⟩ := h
  exact ⟨by simp [clipAtSample, mode, enabled, limit], inactive⟩

theorem clipAtSample_of_not {signals : Eight Int} {s : State} {n : Str}
    (h : s.clips signals n = false) : clipAtSample signals n s = s := by
  unfold clipAtSample
  dsimp only
  split
  · next raises =>
    refine raiseCondition_of_active ?_
    simp only [ne_eq, Bool.and_eq_true, decide_eq_true_eq] at raises
    simpa [State.clips, raises, Channel.markers] using h
  · rfl

/-- Whether CLIP becomes active on a string, and is reported, goes by that string alone. -/
theorem OnlyString.clips_other {n m : Str} {s t : State} (only : OnlyString n s t) (h : m ≠ n)
    (signals : Eight Int) :
    t.clips signals m = s.clips signals m ∧ t.reportsClip signals m = s.reportsClip signals m := by
  unfold State.reportsClip State.latchesNow State.clips
  rw [only.others m h, only.outside.modes, only.outside.globals]
  exact ⟨rfl, rfl⟩

/-- What one string leaves of a sample's CLIPs. -/
structure ClipTaken (signals : Eight Int) (n : Str) (s t : State) : Prop where
  only : OnlyString n s t
  channel : t.channel n = (s.channel n).setMarkers .clip (if s.clips signals n = true
    then ⟨true, true, (s.channel n).clip.endMark || (s.reportsClip signals n && s.hasRoom 1)⟩
    else (s.channel n).clip)
  kept : t.keptRecords = s.keptRecords ++ (if (s.reportsClip signals n && s.hasRoom 1) = true
    then [.condition (.string .clip n) true] else [])
  reserved : t.queue.reserved = s.queue.reserved
  gateOpen : t.queue.gateOpen = s.queue.gateOpen
  dropped : s.queue.dropped = true → t.queue.dropped = true
  grows : s.queue.commitment ≤ t.queue.commitment
  silent : s.reportsClip signals n = false → t.queue = s.queue ∧ t.backlog = s.backlog
  refused : s.reportsClip signals n = true → s.hasRoom 1 = false → t.queue.dropped = true
  demand : s.backlog.lawful →
    t.backlog.lawful ∧ t.demand ≤ s.demand + (s.reportsClip signals n).toNat

theorem clipAtSample_taken (signals : Eight Int) (n : Str) (s : State) :
    ClipTaken signals n s (clipAtSample signals n s) := by
  cases h : s.clips signals n
  · have silent : s.reportsClip signals n = false := by simp [State.reportsClip, h]
    rw [clipAtSample_of_not h]
    exact ⟨.refl n s, by simp [h, Channel.setMarkers], by simp [silent], rfl, rfl, id, le_rfl,
      fun _ => ⟨rfl, rfl⟩, by simp [silent], fun lawful => ⟨lawful, by simp [silent]⟩⟩
  · obtain ⟨raises, inactive⟩ := clipAtSample_of_clips h
    have reports : s.reportsClip signals n = s.latchesNow .clip n := by
      simp [State.reportsClip, h]
    have raised := raiseCondition_raised inactive
    obtain ⟨grows, dropped, demand⟩ := raiseCondition_demand inactive
    rw [raises]
    refine ⟨raiseCondition_onlyString .clip n s, ?_, ?_, raised.reserved, raised.gateOpen, dropped,
      grows, fun r => raised.silent (reports ▸ r), fun r room => ?_, ?_⟩
    · rw [if_pos h, reports]; exact raised.channel
    · rw [reports]; exact raised.kept
    · rw [(raised.refused (reports ▸ r) room).1]
    · rw [reports]; exact demand

/-! ## CLIP on the strings of a list -/

/-- What the strings of a list, taken in order, leave of a sample's CLIPs. -/
structure ClipsTaken (signals : Eight Int) (l : List Str) (s t : State) : Prop where
  outside : Outside s t
  reserved : t.queue.reserved = s.queue.reserved
  gateOpen : t.queue.gateOpen = s.queue.gateOpen
  dropped : s.queue.dropped = true → t.queue.dropped = true
  grows : s.queue.commitment ≤ t.queue.commitment
  silent : l.filter (s.reportsClip signals) = [] → t.queue = s.queue ∧ t.backlog = s.backlog
  others : ∀ n, n ∉ l → t.channel n = s.channel n
  reported : ∃ admitted refused : List Str,
    l.filter (s.reportsClip signals) = admitted ++ refused
    ∧ t.keptRecords = s.keptRecords ++ admitted.map (fun n => .condition (.string .clip n) true)
    ∧ (s.hasRoom 1 = false → admitted = [])
    ∧ (refused ≠ [] → t.queue.dropped = true ∧ t.hasRoom 1 = false)
    ∧ (s.backlog.lawful → s.demand + (l.filter (s.reportsClip signals)).length ≤ 32 → refused = [])
    ∧ ∀ n ∈ l, t.channel n = (s.channel n).setMarkers .clip (if s.clips signals n = true
        then ⟨true, true, (s.channel n).clip.endMark || admitted.contains n⟩
        else (s.channel n).clip)

theorem State.hasRoom_false_of_grows {s t : State} (r : s.hasRoom 1 = false)
    (h : s.queue.commitment ≤ t.queue.commitment) : t.hasRoom 1 = false := by
  have full : ¬s.queue.commitment + 1 ≤ 32 := of_decide_eq_false r
  exact decide_eq_false (p := t.queue.commitment + 1 ≤ 32) (by omega)

/-- The strings behind the first are reported as they were before it. -/
theorem OnlyString.filter_reportsClip {n : Str} {l : List Str} {s t : State}
    (only : OnlyString n s t) (fresh : n ∉ l) (signals : Eight Int) :
    l.filter (t.reportsClip signals) = l.filter (s.reportsClip signals) :=
  List.filter_congr fun _ mem => (only.clips_other (fun e => fresh (e ▸ mem)) signals).2

/-- One string taken, and then the rest of the list. -/
theorem ClipTaken.cons {signals : Eight Int} {n : Str} {l : List Str} {s t u : State}
    (first : ClipTaken signals n s t) (rest : ClipsTaken signals l t u) (fresh : n ∉ l) :
    ClipsTaken signals (n :: l) s u := by
  have filters := first.only.filter_reportsClip fresh signals
  obtain ⟨admitted, refused, split, kept, full, dropped, room, channels⟩ := rest.reported
  rw [filters] at split room
  have notAdmitted : admitted.contains n = false := by
    have sub : n ∉ admitted := fun mem =>
      fresh (List.mem_filter.mp (split ▸ List.mem_append_left refused mem)).1
    simpa using sub
  have channelsOf (chosen : List Str)
      (own : chosen.contains n = (s.reportsClip signals n && s.hasRoom 1))
      (others : ∀ m ∈ l, chosen.contains m = admitted.contains m) (m : Str) (mem : m ∈ n :: l) :
      u.channel m = (s.channel m).setMarkers .clip (if s.clips signals m = true
        then ⟨true, true, (s.channel m).clip.endMark || chosen.contains m⟩
        else (s.channel m).clip) := by
    rcases List.mem_cons.mp mem with e | inRest
    · rw [e, own, rest.others n fresh, first.channel]
    · have other : m ≠ n := fun e => fresh (e ▸ inRest)
      rw [others m inRest, channels m inRest, first.only.others m other,
        (first.only.clips_other other signals).1]
  refine ⟨first.only.outside.trans rest.outside, rest.reserved.trans first.reserved,
    rest.gateOpen.trans first.gateOpen, rest.dropped ∘ first.dropped,
    first.grows.trans rest.grows, fun none => ?_, fun m away => ?_, ?_⟩
  · cases reports : s.reportsClip signals n
    · rw [List.filter_cons_of_neg (by simp [reports]), ← filters] at none
      obtain ⟨queue, backlog⟩ := rest.silent none
      obtain ⟨queue', backlog'⟩ := first.silent reports
      exact ⟨queue.trans queue', backlog.trans backlog'⟩
    · rw [List.filter_cons_of_pos reports] at none
      cases none
  · obtain ⟨other, away⟩ := not_or.mp (mt List.mem_cons.mpr away)
    rw [rest.others m away, first.only.others m other]
  · cases reports : s.reportsClip signals n
    · have filtered : (n :: l).filter (s.reportsClip signals) = l.filter (s.reportsClip signals) :=
        List.filter_cons_of_neg (by simp [reports])
      obtain ⟨queue, -⟩ := first.silent reports
      refine ⟨admitted, refused, filtered.trans split, ?_, fun r => full ?_, dropped,
        fun lawful fits => ?_, channelsOf admitted (by rw [notAdmitted, reports]; rfl) fun _ _ => rfl⟩
      · rw [kept, first.kept]; simp [reports]
      · rw [← r]; unfold State.hasRoom; rw [queue]
      · obtain ⟨lawful', within⟩ := first.demand lawful
        rw [reports] at within
        exact room lawful' ((Nat.add_le_add_right within _).trans (filtered ▸ fits))
    · have filtered : (n :: l).filter (s.reportsClip signals) = n :: (admitted ++ refused) := by
        rw [List.filter_cons_of_pos reports, split]
      cases r : s.hasRoom 1
      · have none : admitted = [] := full (State.hasRoom_false_of_grows r first.grows)
        subst none
        refine ⟨[], n :: refused, filtered, ?_, fun _ => rfl, fun _ => ⟨?_, ?_⟩,
          fun _ fits => ?_, channelsOf [] (by simp [r]) fun _ _ => rfl⟩
        · rw [kept, first.kept]; simp [r]
        · exact rest.dropped (first.refused reports r)
        · exact State.hasRoom_false_of_grows r (first.grows.trans rest.grows)
        · have held : ¬s.queue.commitment + 1 ≤ 32 := of_decide_eq_false r
          have stands := s.demand_bounds.1
          rw [filtered, List.length_cons] at fits
          omega
      · refine ⟨n :: admitted, refused, filtered, ?_, nofun, dropped, fun lawful fits => ?_,
          channelsOf (n :: admitted) (by simp [reports, r]) fun m mem => ?_⟩
        · rw [kept, first.kept]; simp [reports, r]
        · obtain ⟨lawful', within⟩ := first.demand lawful
          rw [reports, Bool.toNat_true] at within
          rw [filtered, List.length_cons, ← split] at fits
          exact room lawful' (by omega)
        · have other : m ≠ n := fun e => fresh (e ▸ mem)
          simp [other]

theorem forStrings_clipsTaken (signals : Eight Int) {l : List Str} (nodup : l.Nodup) (s : State) :
    ClipsTaken signals l s (forStrings (clipAtSample signals) l s) := by
  induction l generalizing s with
  | nil =>
    exact ⟨.refl s, rfl, rfl, id, le_rfl, fun _ => ⟨rfl, rfl⟩, fun _ _ => rfl, [], [], rfl,
      (List.append_nil _).symm, fun _ => rfl, fun h => absurd rfl h, fun _ _ => rfl, nofun⟩
  | cons n l ih =>
    obtain ⟨fresh, nodup⟩ := List.nodup_cons.mp nodup
    exact (clipAtSample_taken signals n s).cons (ih nodup _) fresh

theorem eraseDups_nodup : ∀ order : List Str, order.eraseDups.Nodup
  | [] => .nil
  | n :: order => by
    rw [List.eraseDups_cons]
    exact List.nodup_cons.mpr ⟨by simp [List.mem_eraseDups], eraseDups_nodup _⟩
termination_by order => order.length
decreasing_by exact Nat.lt_succ_of_le (List.length_filter_le ..)

/-- An order of the strings names each of them once. -/
theorem Str.inOrder_nodup (order : List Str) : (Str.inOrder order).Nodup := by
  refine List.nodup_append.mpr ⟨eraseDups_nodup order, Str.all_nodup.filter _,
    fun n named m left e => ?_⟩
  have unnamed := (List.mem_filter.mp left).2
  rw [← e] at unnamed
  simp [List.mem_eraseDups.mp named] at unnamed

theorem Str.mem_inOrder (order : List Str) (n : Str) : n ∈ Str.inOrder order := by
  by_cases h : n ∈ order
  · exact List.mem_append_left _ (List.mem_eraseDups.mpr h)
  · exact List.mem_append_right _ (List.mem_filter.mpr ⟨Str.mem_all n, by simpa using h⟩)

end Sys2Proof.Machine
end

section
/-! What a conversion instant does on a lane (R1, R4 to R10, R12, R13), and the statement of SAMPLE. -/

namespace Sys2Proof.Machine

/-! ## Conversion (R1) -/

theorem convert_bounds (gainCode : Nat) (signal : Int) :
    -2048 ≤ convert gainCode signal ∧ convert gainCode signal ≤ 2047 := by
  unfold convert limitTo
  exact ⟨le_max_left .., max_le (by decide) (min_le_left ..)⟩

/-- A scaled signal at or beyond a limit converts to the limit, and one within them to a neighbouring
level. -/
theorem convert_scaled (gainCode : Nat) (signal : Int) :
    let scaled := signal * 2 ^ gainCode
    (128 * 2047 ≤ scaled → convert gainCode signal = 2047)
    ∧ (scaled ≤ 128 * (-2048) → convert gainCode signal = -2048)
    ∧ (128 * (-2048) ≤ scaled → scaled ≤ 128 * 2047 →
      (128 * convert gainCode signal - scaled).natAbs < 128) := by
  unfold convert limitTo
  dsimp only
  generalize signal * 2 ^ gainCode = scaled
  by_cases whole : scaled % 128 = 0
  · rw [if_pos whole]; omega
  · rw [if_neg whole]; split <;> omega

/-! ## The crossing path (R5 to R8) -/

/-- The lane after the filter's step with the latest transit noted, before the detector judges it. -/
def Lane.filtered (p : Profile) (stamp : Stamp) (x : Int) (l : Lane) : Lane :=
  (l.filter p x).noteTransit l.filter2 stamp

theorem Lane.noteTransit_eq (preceding : Int) (stamp : Stamp) (l : Lane) :
    l.noteTransit preceding stamp = { l with
      transit := if 0 < l.filter2 ∧ preceding ≤ 0 then some ⟨preceding, l.filter2, stamp - 128⟩
        else l.transit } := by
  unfold noteTransit
  by_cases h : 0 < l.filter2 ∧ preceding ≤ 0 <;> simp [h]

theorem Lane.detect_arms {p : Profile} {l : Lane} (a : l.arm = .disarmed)
    (low : l.filter2 ≤ -(4096 * (p.hysteresis : Int))) (k : p.persistence ≤ l.below + 1)
    (stamp : Stamp) :
    l.detect p stamp = ({ l with arm := .armed, below := 0, above := 0 }, none) := by
  simp [detect, a, low, k]

theorem Lane.detect_countsBelow {p : Profile} {l : Lane} (a : l.arm = .disarmed)
    (low : l.filter2 ≤ -(4096 * (p.hysteresis : Int))) (k : l.below + 1 < p.persistence)
    (stamp : Stamp) : l.detect p stamp = ({ l with below := l.below + 1 }, none) := by
  simp [detect, a, low, Nat.not_le.mpr k]

theorem Lane.detect_staysDisarmed {p : Profile} {l : Lane} (a : l.arm = .disarmed)
    (high : -(4096 * (p.hysteresis : Int)) < l.filter2) (stamp : Stamp) :
    l.detect p stamp = ({ l with below := 0 }, none) := by
  simp [detect, a, Int.not_le.mpr high]

theorem Lane.detect_countsAbove {p : Profile} {l : Lane} (a : l.arm = .armed)
    (high : 4096 * (p.hysteresis : Int) < l.filter2) (k : l.above + 1 < p.persistence)
    (stamp : Stamp) : l.detect p stamp = ({ l with above := l.above + 1 }, none) := by
  simp [detect, a, high, Nat.not_le.mpr k]

theorem Lane.detect_staysArmed {p : Profile} {l : Lane} (a : l.arm = .armed)
    (low : l.filter2 ≤ 4096 * (p.hysteresis : Int)) (stamp : Stamp) :
    l.detect p stamp = ({ l with above := 0 }, none) := by
  simp [detect, a, Int.not_lt.mpr low]

theorem Lane.detect_accepts {p : Profile} {l : Lane} (a : l.arm = .armed)
    (high : 4096 * (p.hysteresis : Int) < l.filter2) (k : p.persistence ≤ l.above + 1)
    (stamp : Stamp) :
    l.detect p stamp = ({ l with arm := .disarmed, below := 0, above := 0, transit := none },
      some ((l.transit.map Transit.stampOf).getD stamp)) := by
  simp [detect, a, high, k]

/-- Where no crossing is accepted the latest transit stands (R7, R8). -/
theorem Lane.detect_none {p : Profile} {l : Lane}
    (h : ¬(l.arm = .armed ∧ 4096 * (p.hysteresis : Int) < l.filter2
      ∧ p.persistence ≤ l.above + 1)) (stamp : Stamp) :
    (l.detect p stamp).2 = none ∧ (l.detect p stamp).1.transit = l.transit := by
  cases a : l.arm
  · rcases le_or_gt l.filter2 (-(4096 * (p.hysteresis : Int))) with low | high
    · rcases le_or_gt p.persistence (l.below + 1) with k | k
      · rw [detect_arms a low k]; exact ⟨rfl, rfl⟩
      · rw [detect_countsBelow a low k]; exact ⟨rfl, rfl⟩
    · rw [detect_staysDisarmed a high]; exact ⟨rfl, rfl⟩
  · rcases le_or_gt l.filter2 (4096 * (p.hysteresis : Int)) with low | high
    · rw [detect_staysArmed a low]; exact ⟨rfl, rfl⟩
    · have k : l.above + 1 < p.persistence := Nat.not_le.mp fun k => h ⟨a, high, k⟩
      rw [detect_countsAbove a high k]; exact ⟨rfl, rfl⟩

/-- The detector moves its arm, its counts and the latest transit alone. -/
theorem Lane.detect_only (p : Profile) (stamp : Stamp) (l : Lane) :
    (l.detect p stamp).1 = { l with
      arm := (l.detect p stamp).1.arm, below := (l.detect p stamp).1.below
      above := (l.detect p stamp).1.above, transit := (l.detect p stamp).1.transit } := by
  unfold detect
  dsimp only
  split
  · split
    · split <;> rfl
    · rfl
  · split
    · split <;> rfl
    · rfl

/-- The crossing path moves its own items of the lane alone. -/
theorem Lane.crossingPath_only (p : Profile) (stamp : Stamp) (x : Int) (l : Lane) :
    let d := (l.crossingPath p stamp x).1
    d = { l with
      filter1 := (l.filtered p stamp x).filter1, filter2 := (l.filtered p stamp x).filter2
      arm := d.arm, below := d.below, above := d.above, transit := d.transit } := by
  dsimp only
  unfold crossingPath
  rw [detect_only]
  unfold filtered
  rw [noteTransit_eq]
  rfl

/-! ## A string at a sample -/

/-- What the crossing path makes of the lane at a sample, where it runs: on an enabled string in RUN (R9). -/
def Channel.path (mode : Mode) (stamp : Stamp) (x : Int) (c : Channel) : Lane × Option Stamp :=
  if mode = .run && c.active.enabled then c.lane.crossingPath c.active stamp x else (c.lane, none)

/-- The lane at a sample of RUN or DOZE (R3, R4, R9, R10, R12, R13). -/
theorem Channel.sample_lane {mode : Mode} (h : mode ≠ .start) (stamp : Stamp) (signal : Int)
    (c : Channel) :
    let x := c.lane.conditioned (c.raw signal)
    let path := c.path mode stamp x
    (c.sample mode stamp signal).lane = { path.1 with
      frame := path.1.frame.add (c.raw signal) x path.2.isSome
      clipQuiet := if c.active.enabled && atLimit (c.raw signal) then 0 else path.1.clipQuiet } := by
  cases mode
  · exact absurd rfl h
  all_goals rfl

/-- A crossing that the path accepts is handed on to the capture unit (R9). -/
theorem Channel.sample_capture {mode : Mode} (h : mode ≠ .start) (stamp : Stamp) (signal : Int)
    (c : Channel) :
    (c.sample mode stamp signal).capture = { c.capture with
      handed := (c.path mode stamp (c.lane.conditioned (c.raw signal))).2.or c.capture.handed } := by
  cases mode
  · exact absurd rfl h
  all_goals
    simp only [sample, path]
    split <;> rename_i e <;> rw [e] <;> rfl

/-- A sample moves the lane, the capture unit's crossing and the gate's pin alone. -/
theorem Channel.sample_only (mode : Mode) (stamp : Stamp) (signal : Int) (c : Channel) :
    c.sample mode stamp signal = { c with
      gateLine := { c.gateLine with pin := c.gateLine.high }
      lane := (c.sample mode stamp signal).lane
      capture := (c.sample mode stamp signal).capture } := by
  cases mode <;> rfl

/-- The crossing path of an enabled string at a sample of RUN, as R5 to R9 say. -/
theorem Channel.sample_crossingPath {c : Channel} (enabled : c.active.enabled = true)
    (stamp : Stamp) (signal : Int) :
    CrossingPath stamp (c.lane.conditioned (c.raw signal)) c (c.sample .run stamp signal) := by
  set x := c.lane.conditioned (c.raw signal) with x_def
  set l := c.lane.filtered c.active stamp x with l_def
  have lane : l = { c.lane with
      filter1 := sectionStep (bandCoefficient c.active.bandCode) (4096 * x) c.lane.filter1
      filter2 := sectionStep (bandCoefficient c.active.bandCode)
        (sectionStep (bandCoefficient c.active.bandCode) (4096 * x) c.lane.filter1) c.lane.filter2
      transit := l.transit } := by
    rw [l_def, Lane.filtered, Lane.noteTransit_eq]; rfl
  have transit : l.transit = if 0 < l.filter2 ∧ c.lane.filter2 ≤ 0
      then some ⟨c.lane.filter2, l.filter2, stamp - 128⟩ else c.lane.transit := by
    rw [l_def, Lane.filtered, Lane.noteTransit_eq]; rfl
  have path : c.path .run stamp x = l.detect c.active stamp := by
    simp [path, enabled, Lane.crossingPath, l_def, Lane.filtered]
  have laneAfter := sample_lane (mode := .run) nofun stamp signal c
  have captureAfter := sample_capture (mode := .run) nofun stamp signal c
  rw [← x_def, path] at captureAfter
  simp only [← x_def, path] at laneAfter
  have first : l.filter1 = roundHalfAway (4096 * c.lane.filter1
      + (bandCoefficient c.active.bandCode : Int) * (4096 * x - c.lane.filter1)) 4096 := by
    rw [lane]; rfl
  have second : l.filter2 = roundHalfAway (4096 * c.lane.filter2
      + (bandCoefficient c.active.bandCode : Int) * (l.filter1 - c.lane.filter2)) 4096 := by
    rw [first, lane]; rfl
  have arm : l.arm = c.lane.arm := by rw [lane]
  have below : l.below = c.lane.below := by rw [lane]
  have above : l.above = c.lane.above := by rw [lane]
  have crossed : (c.sample .run stamp signal).lane.frame.crossed
      = (c.lane.frame.crossed || (l.detect c.active stamp).2.isSome) := by
    rw [laneAfter, Lane.detect_only, lane]; rfl
  unfold CrossingPath
  dsimp only
  rw [← first, ← second]
  refine ⟨?_, ?_, fun a low k => ?_, fun a low k => ?_, fun a high => ?_, fun a high k => ?_,
    fun a low => ?_, fun h => ?_, fun h => ?_⟩
  · rw [laneAfter, Lane.detect_only]
  · rw [laneAfter, Lane.detect_only]
  · rw [laneAfter, Lane.detect_arms (arm.trans a) low (below ▸ k)]
    exact ⟨rfl, rfl, rfl⟩
  · rw [laneAfter, Lane.detect_countsBelow (arm.trans a) low (below ▸ k)]
    exact ⟨arm.trans a, congrArg (· + 1) below, above⟩
  · rw [laneAfter, Lane.detect_staysDisarmed (arm.trans a) high]
    exact ⟨arm.trans a, rfl, above⟩
  · rw [laneAfter, Lane.detect_countsAbove (arm.trans a) high (above ▸ k)]
    exact ⟨arm.trans a, congrArg (· + 1) above⟩
  · rw [laneAfter, Lane.detect_staysArmed (arm.trans a) low]
    exact ⟨arm.trans a, rfl⟩
  · obtain ⟨none, stands⟩ := Lane.detect_none (by rwa [arm, above]) stamp
    refine ⟨?_, ?_, ?_⟩
    · rw [laneAfter]; exact stands.trans transit
    · rw [captureAfter, none]; rfl
    · rw [crossed, none]; exact Bool.or_false _
  · obtain ⟨a, high, k⟩ := h
    have accepts := Lane.detect_accepts (arm.trans a) high (above ▸ k) stamp
    rw [crossed, laneAfter, captureAfter, accepts]
    refine ⟨rfl, rfl, rfl, rfl, Bool.or_true _, fun t latest _ => ?_⟩
    rw [transit, latest]
    rfl

end Sys2Proof.Machine
end

section
/-! The statement of SAMPLE (R1, R5 to R10, R12, R15, R18, R118), from the steps owed, the lanes' sample and the
CLIPs taken in order. -/

namespace Sys2Proof.Machine

/-- The part at a conversion instant once every lane has its sample and before any CLIP is raised. -/
def State.sampled (signals : Eight Int) (s : State) : State :=
  { s with
    channels := .of fun n => (s.channels.get n).sample s.modes.mode s.nextStamp (signals.get n)
    timebase := if s.modes.mode == .run then s.nextStamp else s.timebase
    timebaseRunning := s.timebaseRunning || s.modes.mode == .run
    frameSamples := s.frameSamples + 1 }

theorem takeSample_eq (signals : Eight Int) (order : List Str) (s : State) :
    takeSample signals order s
      = forStrings (clipAtSample signals) (Str.inOrder order) (s.sampled signals) := rfl

theorem State.sampled_channel (signals : Eight Int) (s : State) (n : Str) :
    (s.sampled signals).channel n
      = (s.channel n).sample s.modes.mode s.nextStamp (signals.get n) := by simp [sampled]

/-- Whether CLIP becomes active, and is reported, goes by the settings and markers that a sample leaves as they
stand. -/
theorem State.sampled_clips (signals : Eight Int) (s : State) (n : Str) :
    (s.sampled signals).clips signals n = s.clips signals n
    ∧ (s.sampled signals).reportsClip signals n = s.reportsClip signals n := by
  unfold reportsClip latchesNow clips
  rw [sampled_channel, Channel.sample_only]
  exact ⟨rfl, rfl⟩

/-- What a sample of RUN or DOZE leaves in a string's lane and capture unit. -/
theorem Channel.sample_tracked {mode : Mode} (h : mode ≠ .start) (stamp : Stamp) (signal : Int)
    (c : Channel) :
    let raw := c.raw signal
    let x := max (-2048) (min 2047 (raw - c.lane.offset))
    let d := c.sample mode stamp signal
    let limit := raw = -2048 ∨ raw = 2047
    d.lane.offset = c.lane.offset ∧ d.lane.envelope = c.lane.envelope
    ∧ d.lane.openHold = c.lane.openHold ∧ d.lane.openRelease = c.lane.openRelease
    ∧ d.lane.frame.sum = c.lane.frame.sum + raw
    ∧ d.lane.frame.peak = max c.lane.frame.peak x.natAbs
    ∧ (d.lane.frame.limit = true ↔ c.lane.frame.limit = true ∨ limit)
    ∧ (d.lane.frame.high = true ↔ c.lane.frame.high = true ∨ 2040 ≤ raw ∨ raw ≤ -2040)
    ∧ d.lane.clipQuiet = (if c.active.enabled = true ∧ limit then 0 else c.lane.clipQuiet)
    ∧ (mode = .doze ∨ c.active.enabled = false →
      d.capture = c.capture ∧ d.lane.filter1 = c.lane.filter1 ∧ d.lane.filter2 = c.lane.filter2
      ∧ d.lane.arm = c.lane.arm ∧ d.lane.transit = c.lane.transit)
    ∧ (mode = .run → c.active.enabled = true → CrossingPath stamp x c d) := by
  have lane := sample_lane h stamp signal c
  have capture := sample_capture h stamp signal c
  dsimp only at lane ⊢
  have kept : (c.path mode stamp (c.lane.conditioned (c.raw signal))).1 = { c.lane with
      filter1 := (c.path mode stamp (c.lane.conditioned (c.raw signal))).1.filter1
      filter2 := (c.path mode stamp (c.lane.conditioned (c.raw signal))).1.filter2
      arm := (c.path mode stamp (c.lane.conditioned (c.raw signal))).1.arm
      below := (c.path mode stamp (c.lane.conditioned (c.raw signal))).1.below
      above := (c.path mode stamp (c.lane.conditioned (c.raw signal))).1.above
      transit := (c.path mode stamp (c.lane.conditioned (c.raw signal))).1.transit } := by
    unfold path
    split
    · rw [Lane.crossingPath_only]
    · rfl
  refine ⟨?_, ?_, ?_, ?_, ?_, ?_, ?_, ?_, ?_, fun still => ?_, fun run enabled => ?_⟩
  · rw [lane, kept]
  · rw [lane, kept]
  · rw [lane, kept]
  · rw [lane, kept]
  · rw [lane, kept]; rfl
  · rw [lane, kept]; rfl
  · rw [lane, kept]; simp [LaneFrame.add, atLimit]
  · rw [lane, kept]; simp [LaneFrame.add, isHigh]
  · rw [lane, kept]; simp [atLimit]
  · have off : c.path mode stamp (c.lane.conditioned (c.raw signal)) = (c.lane, none) := by
      rcases still with doze | disabled <;> simp [path, *]
    rw [lane, capture, off]
    exact ⟨rfl, rfl, rfl, rfl, rfl⟩
  · subst run
    exact sample_crossingPath enabled stamp signal

theorem atLimit_eq (raw : Int) : atLimit raw = decide (raw = -2048 ∨ raw = 2047) := by
  rw [Bool.eq_iff_iff]; simp [atLimit]

theorem exec_sample {s : State} (h : s.modes.resetPinLow = false) (signals : Eight Int)
    (order : List Str) :
    exec (.sample signals order) s = .next (takeSample signals order (settle s)) :=
  congrArg Host.Outcome.next
    (State.live_of_released h fun s => takeSample signals order (settle s))

/-- Settles O28: what was left out is taken by the owed steps, and of the state that leaves the lanes take their
sample and the CLIPs are raised in order. -/
theorem sampleIsTaken : Obligations.SampleIsTaken := by
  refine ⟨rfl, fun signals order s released => ?_⟩
  have runs := runs_owedSteps released
  have sampled := exec_sample released signals order
  have lawful := settle_conditionLaw (s := s)
  generalize settle s = u at runs sampled lawful
  have taken := forStrings_clipsTaken signals (Str.inOrder_nodup order) (u.sampled signals)
  rw [← takeSample_eq] at taken
  have clipped : (u.sampled signals).clips signals = u.clips signals :=
    funext fun n => (State.sampled_clips signals u n).1
  have reports : (u.sampled signals).reportsClip signals = u.reportsClip signals :=
    funext fun n => (State.sampled_clips signals u n).2
  obtain ⟨admitted, refused, split, kept, -, dropped, room, channels⟩ := taken.reported
  rw [reports] at split room
  rw [clipped] at channels
  refine ⟨u, takeSample signals order u, fun n => (u.channel n).raw (signals.get n),
    runs, sampled, taken.outside.frameSamples, ?_, taken.outside.timebaseRunning, taken.outside.globals,
    taken.outside.lock, taken.outside.mute, taken.outside.link, taken.outside.modes,
    taken.reserved, taken.gateOpen, ?_, fun n => ?_⟩
  · rw [taken.outside.timebase, State.sampled]
    by_cases run : u.modes.mode = .run <;> simp [run, State.nextStamp]
  · have activates (n : Str) : (u.modes.mode != .start && (u.channel n).active.enabled
        && decide ((u.channel n).raw (signals.get n) = -2048 ∨ (u.channel n).raw (signals.get n) = 2047)
        && !(u.channel n).clip.active) = u.clips signals n := by
      rw [State.clips, atLimit_eq]
    have offers : (fun n => u.clips signals n && !(u.channel n).clip.latched
        && u.globals.reportMask.clip) = u.reportsClip signals := by
      funext n
      rw [Bool.and_assoc]; rfl
    simp only [activates, offers]
    refine ⟨fun none => ?_, admitted, refused, split, ?_, dropped, fun law fits => ?_, fun n => ?_⟩
    · exact taken.silent (reports ▸ none)
    · exact kept
    · refine room (lawful law).2 ?_
      have most := (u.sampled signals).demand_bounds.2
      have free : u.queue.commitment + ((Str.inOrder order).filter (u.reportsClip signals)).length + 1
          ≤ 32 := of_decide_eq_true fits
      change _ ≤ u.queue.commitment + 1 at most
      omega
    · have channel := congrArg Channel.clip (channels n (Str.mem_inOrder order n))
      rw [State.sampled_channel, Channel.sample_only] at channel
      exact channel
  · have channel := channels n (Str.mem_inOrder order n)
    rw [State.sampled_channel] at channel
    generalize (if u.clips signals n = true then _ else _ : Markers) = m at channel
    refine ⟨(convert_bounds ..).1, (convert_bounds ..).2, convert_scaled .., ?_⟩
    dsimp only
    rw [channel, Channel.sample_only]
    refine ⟨rfl, rfl, rfl, rfl, rfl, rfl, rfl, rfl, rfl, fun start => ?_, fun tracks => ?_⟩
    · rw [start]; exact ⟨rfl, rfl⟩
    · exact Channel.sample_tracked tracks u.nextStamp (signals.get n) (u.channel n)

end Sys2Proof.Machine
end

section
/-! What the capture unit does with a crossing and which estimate an entry attempts (R25 to R31, R33, R36), with
the two statements. -/

namespace Sys2Proof.Machine

/-! ## An entry and its estimate -/

/-- An entry replaces the ring and sets the age count to 0; the estimate it attempts, if one comes about, becomes
the last estimate and is delivered (R27, R33). -/
theorem Capture.entry_eq (p : Profile) (ring : List Stamp) (u : Capture) :
    u.entry p ring = { u with
      ring := ring, age := 0
      lastEstimate := (attempt p ring).or u.lastEstimate
      delivered := (attempt p ring).or u.delivered } := by
  unfold entry
  cases attempt p ring <;> rfl

/-- A ring of fewer than two entries attempts no estimate (R28). -/
theorem attempt_of_short {ring : List Stamp} (h : ring.length < 2) (p : Profile) :
    attempt p ring = none := if_pos h

theorem Capture.entry_single (p : Profile) (t : Stamp) (u : Capture) :
    u.entry p [t] = { u with ring := [t], age := 0 } := by
  rw [entry_eq, attempt_of_short (by simp)]
  rfl

/-! ## The judgement of a crossing (R26) -/

theorem Capture.judge_of_empty {u : Capture} (h : u.ring = []) (t : Stamp) :
    u.judge t = .first := by simp [judge, h]

/-- A crossing behind a newest entry is judged by the age count and the interval (R26). -/
theorem Capture.judge_of_newest {u : Capture} {older : List Stamp} {last : Stamp}
    (h : u.ring = older ++ [last]) (t : Stamp) :
    u.judge t = if 256 ≤ u.age then .long
      else if (t - last).toNat < u.pmin then .short
      else if u.pmax < (t - last).toNat then .long
      else .entered := by
  simp only [judge, h, List.getLast?_concat, interval] <;> rfl

theorem Capture.cross_of_guarded {u : Capture} (h : 0 < u.guard) (p : Profile) (t : Stamp) :
    u.cross p t = { u with guard := u.guard - 1 } := if_pos h

/-- With the guard count at 0 a crossing goes by its judgement. -/
theorem Capture.cross_of_unguarded {u : Capture} (h : u.guard = 0) (p : Profile) (t : Stamp) :
    u.cross p t = match u.judge t with
      | .first | .long => u.entry p [t]
      | .short => u
      | .entered => u.entry p (enterRing u.ring t) := by
  exact (if_neg (by omega)).trans rfl

theorem enterRing_append (older : List Stamp) (last t : Stamp) :
    enterRing (older ++ [last]) t
      = (older ++ [last, t]).drop (older.length + 2 - 16) := by
  simp [enterRing]

theorem takeCrossing_of_none {n : Str} {s : State} (h : (s.channel n).capture.handed = none) :
    takeCrossing n s = s := by simp [takeCrossing, h]

theorem takeCrossing_of_handed {n : Str} {s : State} {t : Stamp}
    (h : (s.channel n).capture.handed = some t) :
    takeCrossing n s = s.mod n fun c =>
      { c with capture := ({ c.capture with handed := none } : Capture).cross c.active t } := by
  simp [takeCrossing, h]

theorem exec_crossing {s : State} (h : s.modes.resetPinLow = false) (n : Str) :
    exec (.crossing n) s = .next (takeCrossing n s) :=
  congrArg Host.Outcome.next (State.live_of_released h _)

/-- Settles O30, by the branches of R25 and R26. -/
theorem crossingIsJudged : Obligations.CrossingIsJudged := by
  intro n s released
  rw [exec_crossing released]
  refine ⟨fun none => by rw [takeCrossing_of_none none], fun stamp handed => ?_⟩
  rw [takeCrossing_of_handed handed]
  have taken {g : Channel → Capture}
      (h : ({ (s.channel n).capture with handed := none } : Capture).cross (s.channel n).active stamp
        = g (s.channel n)) :
      Host.Outcome.next (φ := Fault) (ρ := Refusal) (s.mod n fun c =>
        { c with capture := ({ c.capture with handed := none } : Capture).cross c.active stamp })
        = .next (s.mod n fun c => { c with capture := g c }) :=
    congrArg _ (State.mod_congr (congrArg (fun u => { s.channel n with capture := u }) h))
  refine ⟨fun guarded => taken ?_, fun free empty => taken ?_, fun older last free ring => ?_⟩
  · rw [Capture.cross_of_guarded (by exact guarded)]
  · rw [Capture.cross_of_unguarded (by exact free), Capture.judge_of_empty (by exact empty)]
    dsimp only
    rw [Capture.entry_single]
  · have judged := Capture.judge_of_newest
      (u := { (s.channel n).capture with handed := none }) ring stamp
    refine ⟨fun long => taken ?_, fun young short => taken ?_, fun young above below => taken ?_⟩
    · have verdict : ({ (s.channel n).capture with handed := none } : Capture).judge stamp = .long := by
        rw [judged]
        by_cases old : 256 ≤ (s.channel n).capture.age
        · exact if_pos old
        · obtain ⟨above, beyond⟩ := long.resolve_left old
          rw [if_neg (by exact old), if_neg (by exact Nat.not_lt.mpr above), if_pos (by exact beyond)]
      rw [Capture.cross_of_unguarded (by exact free), verdict]
      dsimp only
      rw [Capture.entry_single]
    · rw [Capture.cross_of_unguarded (by exact free), judged, if_neg (by exact Nat.not_le.mpr young),
        if_pos (by exact short)]
    · rw [Capture.cross_of_unguarded (by exact free), judged, if_neg (by exact Nat.not_le.mpr young),
        if_neg (by exact Nat.not_lt.mpr above), if_neg (by exact Nat.not_lt.mpr below)]
      dsimp only
      rw [Capture.entry_eq, ring, enterRing_append]

/-! ## The full and the provisional estimate (R28 to R31) -/

/-- The newest entries of a ring are its end. -/
theorem newest_append {older ring : List Stamp} {k : Nat} (h : ring.length = k) :
    newest k (older ++ ring) = ring := by
  have length : (older ++ ring).length - k = older.length := by
    rw [List.length_append]; omega
  rw [newest, length, List.drop_left]

theorem edgesOf_pos (code : Nat) : 2 ≤ edgesOf code := by
  unfold edgesOf
  split <;> decide

/-- The full estimate over a ring that ends in E entries, by the tolerance of each interval (R29, R30). -/
theorem fullEstimate_append {p : Profile} {older between : List Stamp} {first last : Stamp}
    (h : between.length + 2 = edgesOf p.edgeSpanCode) :
    fullEstimate p (older ++ (first :: between ++ [last]))
      = if (intervals (first :: between ++ [last])).all
          (withinTolerance p.toleranceCode (last - first).toNat (edgesOf p.edgeSpanCode - 1))
        then some ⟨.full, pitchOf (last - first).toNat (edgesOf p.edgeSpanCode - 1)⟩ else none := by
  unfold fullEstimate
  dsimp only
  rw [newest_append (by simpa using h)]
  simp [interval]

/-- Settles O31: the attempt goes by the ring count, and the full estimate by the tolerance of each interval. -/
theorem estimateIsFormed : Obligations.EstimateIsFormed := by
  refine ⟨⟨rfl, rfl, rfl, rfl⟩, fun p ring u => ?_, fun p ring => ?_⟩
  · rw [Capture.entry_eq]
    refine ⟨rfl, rfl, fun e h => ?_, fun h => ?_⟩ <;> rw [h] <;> exact ⟨rfl, rfl⟩
  · dsimp only
    refine ⟨fun short => attempt_of_short short p, fun two few confirmed => ?_,
      fun older t1 t2 ring_eq few fast => ?_, fun older first between last ring_eq span => ?_⟩
    · simp [attempt, Nat.not_lt.mpr two, Nat.not_le.mpr few, confirmed]
    · have two : 2 ≤ ring.length := by simp [ring_eq]
      have provisional : provisionalEstimate ring
          = some ⟨.provisional, pitchOf (t2 - t1).toNat 1⟩ := by
        rw [ring_eq, provisionalEstimate, newest_append (k := 2) rfl]
        rfl
      simp [attempt, Nat.not_lt.mpr two, Nat.not_le.mpr few, fast, provisional]
    · have parts : ring = older ++ (first :: between ++ [last]) := by simpa using ring_eq
      have count : edgesOf p.edgeSpanCode ≤ ring.length := by
        rw [parts]; simp; omega
      have full : attempt p ring = fullEstimate p ring := by
        simp [attempt, Nat.not_lt.mpr ((edgesOf_pos _).trans count), count]
      rw [full, parts, fullEstimate_append span]
      have steady : (intervals (first :: between ++ [last])).all
            (withinTolerance p.toleranceCode (last - first).toNat (edgesOf p.edgeSpanCode - 1)) = true
          ↔ ∀ d ∈ intervals (first :: between ++ [last]),
            64 * (((edgesOf p.edgeSpanCode : Int) - 1) * (d : Int)
              - ((last - first).toNat : Int)).natAbs ≤ p.toleranceCode * (last - first).toNat := by
        have one : 1 ≤ edgesOf p.edgeSpanCode := Nat.le_of_succ_le (edgesOf_pos _)
        simp [List.all_eq_true, withinTolerance, distance, one]
      exact ⟨fun h => if_pos (steady.mpr h), fun h => if_neg (mt steady.mp h)⟩

end Sys2Proof.Machine
end

section
/-! The numbers of chapter 2: the period limits of a profile (R20) and the pitch of a period (R32), and their two
statements. The model decides both by comparing powers of whole numbers; here these comparisons are read as the
comparisons of real numbers they stand for. -/

namespace Sys2Proof.Machine

/-! ## The search for the greatest number -/

/-- Where a test passes exactly the numbers up to a bound within its reach, the search finds the bound. -/
theorem greatest_eq {test : Nat → Bool} {bound : Nat} (h : ∀ k, test k = true ↔ k ≤ bound)
    (bits acc : Nat) (low : acc ≤ bound) (high : bound < acc + 2 ^ bits) :
    greatest test bits acc = bound := by
  induction bits generalizing acc with
  | zero => unfold greatest; omega
  | succ bits ih =>
    unfold greatest
    rw [pow_succ] at high
    split
    · next passes => exact ih _ ((h _).mp passes) (by omega)
    · next fails => exact ih _ low (by have := mt (h _).mpr fails; omega)

/-- A test that passes exactly the numbers up to a real one finds its whole part. -/
theorem greatest_eq_floor {test : Nat → Bool} {x : ℝ} (h : ∀ k : Nat, test k = true ↔ (k : ℝ) ≤ x)
    (bits : Nat) (low : 0 ≤ x) (high : x < 2 ^ bits) : greatest test bits 0 = ⌊x⌋₊ := by
  refine greatest_eq (fun k => ?_) bits 0 (Nat.zero_le _) ?_
  · rw [h, Nat.le_floor_iff low]
  · rw [Nat.zero_add, Nat.floor_lt low]
    exact_mod_cast high

/-! ## The period of a note (R20) -/

theorem periodOfNote_pos (note : ℝ) : 0 < periodOfNote note := by
  unfold periodOfNote
  positivity

/-- A higher note has a shorter period. -/
theorem periodOfNote_lt {low high : ℝ} (h : low < high) : periodOfNote high < periodOfNote low := by
  unfold periodOfNote
  have power : (2 : ℝ) ^ ((low - 69) / 12) < 2 ^ ((high - 69) / 12) :=
    Real.rpow_lt_rpow_of_exponent_lt one_lt_two (by linarith)
  gcongr

/-- The factor by which a note stands above note 69, to the twenty-fourth power. -/
theorem noteFactor_pow (halfNotes : Nat) :
    ((2 : ℝ) ^ (((halfNotes : ℝ) / 2 - 69) / 12)) ^ 24 * 2 ^ 138 = 2 ^ halfNotes := by
  rw [← Real.rpow_natCast, ← Real.rpow_mul two_pos.le, ← Real.rpow_natCast 2 138,
    ← Real.rpow_add two_pos, ← Real.rpow_natCast 2 halfNotes]
  congr 1
  push_cast
  ring

/-- A count against the period of a note, compared without division. -/
theorem le_periodOfNote_iff (note k : ℝ) :
    k ≤ periodOfNote note ↔ k * 440 * 2 ^ ((note - 69) / 12) ≤ 4096000 := by
  have pos : (0 : ℝ) < 440 * 2 ^ ((note - 69) / 12) := by positivity
  rw [periodOfNote, le_div_iff₀ pos, mul_assoc]

/-- The model's comparison of powers, as a comparison with the period. -/
theorem withinPeriod_iff (halfNotes k : Nat) :
    withinPeriod halfNotes k = true ↔ (k : ℝ) ≤ periodOfNote (halfNotes / 2) := by
  have factor := noteFactor_pow halfNotes
  rw [le_periodOfNote_iff]
  set q : ℝ := 2 ^ (((halfNotes : ℝ) / 2 - 69) / 12)
  have q_pos : 0 ≤ q := by positivity
  calc withinPeriod halfNotes k = true
      ↔ (k * 440) ^ 24 * 2 ^ halfNotes ≤ 4096000 ^ 24 * 2 ^ 138 := by
        unfold withinPeriod; exact iff_of_eq Nat.ble_eq
    _ ↔ ((k : ℝ) * 440) ^ 24 * 2 ^ halfNotes ≤ 4096000 ^ 24 * 2 ^ 138 := by norm_cast
    _ ↔ ((k : ℝ) * 440 * q) ^ 24 * 2 ^ 138 ≤ 4096000 ^ 24 * 2 ^ 138 := by
        rw [← factor, mul_pow _ q, mul_assoc]
    _ ↔ ((k : ℝ) * 440 * q) ^ 24 ≤ 4096000 ^ 24 := mul_le_mul_iff_left₀ (by positivity)
    _ ↔ (k : ℝ) * 440 * q ≤ 4096000 := pow_le_pow_iff_left₀ (by positivity) (by norm_num) (by norm_num)

theorem withinPeriod_eq_iff (halfNotes k : Nat) :
    (k * 440) ^ 24 * 2 ^ halfNotes = 4096000 ^ 24 * 2 ^ 138 ↔ (k : ℝ) = periodOfNote (halfNotes / 2) := by
  have factor := noteFactor_pow halfNotes
  have pos : (0 : ℝ) < 440 * 2 ^ (((halfNotes : ℝ) / 2 - 69) / 12) := by positivity
  rw [periodOfNote, eq_div_iff pos.ne', ← mul_assoc]
  set q : ℝ := 2 ^ (((halfNotes : ℝ) / 2 - 69) / 12)
  have q_pos : 0 ≤ q := by positivity
  calc (k * 440) ^ 24 * 2 ^ halfNotes = 4096000 ^ 24 * 2 ^ 138
      ↔ ((k : ℝ) * 440) ^ 24 * 2 ^ halfNotes = 4096000 ^ 24 * 2 ^ 138 := by norm_cast
    _ ↔ ((k : ℝ) * 440 * q) ^ 24 * 2 ^ 138 = 4096000 ^ 24 * 2 ^ 138 := by
        rw [← factor, mul_pow _ q, mul_assoc]
    _ ↔ ((k : ℝ) * 440 * q) ^ 24 = 4096000 ^ 24 := mul_left_inj' (by positivity)
    _ ↔ (k : ℝ) * 440 * q = 4096000 := pow_left_inj₀ (by positivity) (by norm_num) (by norm_num)

/-- The period of the lowest note a profile can name is within the counts the search reaches. -/
theorem periodOfNote_low : periodOfNote (23 / 2) ≤ 257836 := by
  refine le_of_not_ge fun h => ?_
  have within := (withinPeriod_iff 23 257836).mpr (by exact_mod_cast h)
  exact absurd within (by decide)

/-- The period of the highest note a profile can name. -/
theorem le_periodOfNote_high : 754 ≤ periodOfNote (225 / 2) := by
  have within := (withinPeriod_iff 225 754).mp (by decide)
  exact_mod_cast within

theorem periodOfNote_le_reach {note : ℝ} (h : 23 / 2 ≤ note) : periodOfNote note ≤ 257836 := by
  rcases h.eq_or_lt with h | h
  · exact h ▸ periodOfNote_low
  · exact (periodOfNote_lt h).le.trans periodOfNote_low

/-- The period of a note rounded down (R20). -/
theorem periodDown_eq {halfNotes : Nat} (h : 23 ≤ halfNotes) :
    periodDown halfNotes = ⌊periodOfNote (halfNotes / 2)⌋₊ := by
  have note : (23 : ℝ) / 2 ≤ halfNotes / 2 := by
    have : (23 : ℝ) ≤ halfNotes := by exact_mod_cast h
    linarith
  exact greatest_eq_floor (withinPeriod_iff halfNotes) 18 (periodOfNote_pos _).le
    ((periodOfNote_le_reach note).trans_lt (by norm_num))

/-- The period of a note rounded up (R20). -/
theorem periodUp_eq {halfNotes : Nat} (h : 23 ≤ halfNotes) :
    periodUp halfNotes = ⌈periodOfNote (halfNotes / 2)⌉₊ := by
  have down := periodDown_eq h
  have below := Nat.floor_le (periodOfNote_pos ((halfNotes : ℝ) / 2)).le
  have above := Nat.lt_floor_add_one (periodOfNote ((halfNotes : ℝ) / 2))
  rw [← down] at below above
  unfold periodUp
  dsimp only
  split
  · next whole => rw [← (withinPeriod_eq_iff ..).mp whole, Nat.ceil_natCast]
  · next fraction =>
    have strict := below.lt_of_ne (mt (withinPeriod_eq_iff ..).mpr fraction)
    symm
    rw [Nat.ceil_eq_iff (by omega)]
    push_cast
    exact ⟨by simpa using strict, above.le⟩

/-! ## The limits of a profile (R20) -/

theorem Profile.Valid.pmin_eq {n : Str} {p : Profile} (v : p.Valid n) :
    p.pmin = ⌊periodOfNote (p.openNote + p.span + p.bendRange + 1 / 2)⌋₊ := by
  have low := v.openNote.1
  rw [pmin, periodDown_eq (by omega)]
  congr 2
  push_cast
  ring

theorem Profile.Valid.pmax_eq {n : Str} {p : Profile} (v : p.Valid n) :
    p.pmax = ⌈periodOfNote (p.openNote - p.downAllowance - 1 / 2)⌉₊ := by
  have low := v.downAllowance.2
  have down : p.downAllowance ≤ p.openNote := by omega
  rw [pmax, periodUp_eq (by omega)]
  congr 2
  rw [Nat.cast_sub (by omega)]
  push_cast [down]
  ring

theorem Profile.Valid.le_pmin {n : Str} {p : Profile} (v : p.Valid n) : 754 ≤ p.pmin := by
  have high : (p.openNote + p.span + p.bendRange : ℝ) ≤ 112 := by exact_mod_cast v.bendRange.2.2
  rw [v.pmin_eq, Nat.le_floor_iff (periodOfNote_pos _).le]
  push_cast
  rcases (show (p.openNote + p.span + p.bendRange + 1 / 2 : ℝ) ≤ 225 / 2 by linarith).eq_or_lt with h | h
  · exact h ▸ le_periodOfNote_high
  · exact le_periodOfNote_high.trans (periodOfNote_lt h).le

theorem Profile.Valid.pmax_le {n : Str} {p : Profile} (v : p.Valid n) : p.pmax ≤ 257836 := by
  have low : (12 + p.downAllowance : ℝ) ≤ p.openNote := by exact_mod_cast v.downAllowance.2
  rw [v.pmax_eq, Nat.ceil_le]
  have within := periodOfNote_le_reach
    (show 23 / 2 ≤ (p.openNote - p.downAllowance - 1 / 2 : ℝ) by linarith)
  push_cast
  exact within

theorem Profile.Valid.pmin_lt_pmax {n : Str} {p : Profile} (v : p.Valid n) : p.pmin < p.pmax := by
  have span : (12 : ℝ) ≤ p.span := by exact_mod_cast v.span.1
  have bend : (1 : ℝ) ≤ p.bendRange := by exact_mod_cast v.bendRange.1
  have down : (0 : ℝ) ≤ p.downAllowance := Nat.cast_nonneg _
  have shorter := periodOfNote_lt (show (p.openNote - p.downAllowance - 1 / 2 : ℝ)
    < p.openNote + p.span + p.bendRange + 1 / 2 by linarith)
  have floored := Nat.floor_le (periodOfNote_pos (p.openNote + p.span + p.bendRange + 1 / 2)).le
  have raised := Nat.le_ceil (periodOfNote (p.openNote - p.downAllowance - 1 / 2))
  rw [← v.pmin_eq] at floored
  rw [← v.pmax_eq] at raised
  exact_mod_cast (floored.trans_lt shorter).trans_le raised

/-- Settles O52: the limits are the rounded periods, which stand in order within their bounds. -/
theorem periodLimitsAreThoseOfTheNotes : Obligations.PeriodLimitsAreThoseOfTheNotes := by
  refine ⟨fun n p v => ⟨v.pmin_eq, v.pmax_eq, rfl, rfl, v.bendRange.2.2, ?_, v.le_pmin, v.pmax_le,
    v.pmin_lt_pmax, fun u older newest stamp low high young ring equal => ?_⟩, by decide⟩
  · have := v.downAllowance.2
    omega
  · have order := v.pmin_lt_pmax
    rw [Capture.judge_of_newest ring, if_neg (by omega), if_neg (by omega), if_neg (by omega)]

/-! ## The pitch of a period (R32) -/

/-- Powers compared through their logarithms, for any exponent. -/
theorem pow_mul_two_pow_le_iff {a b : ℝ} (ha : 0 < a) (hb : 0 < b) (power i j : Nat) :
    a ^ power * 2 ^ i ≤ b ^ power * 2 ^ j ↔ (i : ℝ) ≤ power * Real.logb 2 (b / a) + j := by
  have log (x : ℝ) (hx : 0 < x) (k : Nat) :
      Real.logb 2 (x ^ power * 2 ^ k) = power * Real.logb 2 x + k := by
    rw [Real.logb_mul (pow_pos hx _).ne' (pow_pos two_pos _).ne', Real.logb_pow, Real.logb_pow,
      Real.logb_self_eq_one one_lt_two, mul_one]
  rw [← Real.logb_le_logb one_lt_two (by positivity) (by positivity), log a ha, log b hb,
    Real.logb_div hb.ne' ha.ne']
  constructor <;> intro h <;> linarith

/-- The pitch of a period, before it is rounded (R32). -/
noncomputable def exactPitch (num den : Nat) : ℝ :=
  64 * (69 + 12 * Real.logb 2 (4096000 * den / num / 440))

/-- The model's comparison of powers, as a comparison with the exact pitch. -/
theorem pitchReaches_iff {num den : Nat} (hn : 0 < num) (hd : 0 < den) (sixteenths p : Nat) :
    pitchReaches num den sixteenths p = true ↔ (p : ℝ) ≤ exactPitch num den + sixteenths / 16 := by
  have num_pos : (0 : ℝ) < num := by exact_mod_cast hn
  have den_pos : (0 : ℝ) < den := by exact_mod_cast hd
  have ratio : (4096000 * den : ℝ) / (440 * num) = 4096000 * den / num / 440 := by
    rw [div_div, mul_comm (440 : ℝ)]
  have compared := pow_mul_two_pow_le_iff (a := 440 * num) (b := 4096000 * den) (by positivity)
    (by positivity)
  have cast (power i j : Nat) : (440 * num) ^ power * 2 ^ i ≤ (4096000 * den) ^ power * 2 ^ j
      ↔ (440 * num : ℝ) ^ power * 2 ^ i ≤ (4096000 * den) ^ power * 2 ^ j := by norm_cast
  unfold pitchReaches exactPitch
  rw [Nat.ble_eq, cast, compared, ratio]
  push_cast
  constructor <;> intro h <;> linarith

/-- The pitches of the periods a string can have lie well within the search. -/
theorem exactPitch_bounds {num den : Nat} (hd : 0 < den) (low : 754 * den ≤ num)
    (high : num ≤ 257836 * den) : 576 ≤ exactPitch num den ∧ exactPitch num den ≤ 7488 := by
  have den_pos : (0 : ℝ) < den := by exact_mod_cast hd
  have num_low : (754 * den : ℝ) ≤ num := by exact_mod_cast low
  have num_high : (num : ℝ) ≤ 257836 * den := by exact_mod_cast high
  have num_pos : (0 : ℝ) < num := by linarith
  have pos : (0 : ℝ) < 4096000 * den / num / 440 := by positivity
  have least : -5 ≤ Real.logb 2 (4096000 * den / num / 440) := by
    rw [Real.le_logb_iff_rpow_le one_lt_two pos, div_div, le_div_iff₀ (by positivity)]
    norm_num
    linarith
  have most : Real.logb 2 (4096000 * den / num / 440) ≤ 4 := by
    rw [Real.logb_le_iff_le_rpow one_lt_two pos, div_div, div_le_iff₀ (by positivity)]
    norm_num
    linarith
  unfold exactPitch
  constructor <;> linarith

/-- The search for a pitch raised by some sixteenths finds the whole part of what it raises. -/
theorem greatest_pitchReaches {num den : Nat} (hd : 0 < den) (low : 754 * den ≤ num)
    (high : num ≤ 257836 * den) {sixteenths : Nat} (few : sixteenths ≤ 16) :
    greatest (pitchReaches num den sixteenths) 13 0 = ⌊exactPitch num den + sixteenths / 16⌋₊ := by
  obtain ⟨least, most⟩ := exactPitch_bounds hd low high
  have raised : (sixteenths : ℝ) ≤ 16 := by exact_mod_cast few
  have positive : (0 : ℝ) ≤ sixteenths := Nat.cast_nonneg _
  exact greatest_eq_floor (pitchReaches_iff (by omega) hd sixteenths) 13 (by linarith)
    (by norm_num; linarith)

/-- The delivered pitch is one of the two whole parts (R32). -/
theorem pitchOf_eq_or {num den : Nat} (hd : 0 < den) (low : 754 * den ≤ num)
    (high : num ≤ 257836 * den) :
    pitchOf num den = ⌊exactPitch num den + (7 : Nat) / 16⌋₊
    ∨ pitchOf num den = ⌊exactPitch num den + (9 : Nat) / 16⌋₊ := by
  unfold pitchOf
  rw [greatest_pitchReaches hd low high (by norm_num), greatest_pitchReaches hd low high (by norm_num)]
  dsimp only
  split
  · exact .inl rfl
  · split
    · exact .inr rfl
    · exact .inl rfl

/-- Settles O53: the delivered pitch is a whole part within 9/16 of the exact one. -/
theorem pitchIsThatOfThePeriod : Obligations.PitchIsThatOfThePeriod := by
  intro num den hd low high
  obtain ⟨least, -⟩ := exactPitch_bounds hd low high
  change |(pitchOf num den : ℝ) - exactPitch num den| ≤ 9 / 16
  rw [abs_le]
  rcases pitchOf_eq_or hd low high with h | h <;> rw [h] <;> push_cast
  · have below := Nat.floor_le (show 0 ≤ exactPitch num den + 7 / 16 by linarith)
    have above := Nat.lt_floor_add_one (exactPitch num den + 7 / 16)
    constructor <;> linarith
  · have below := Nat.floor_le (show 0 ≤ exactPitch num den + 9 / 16 by linarith)
    have above := Nat.lt_floor_add_one (exactPitch num den + 9 / 16)
    constructor <;> linarith

end Sys2Proof.Machine
end

section
/-! What a relation between states has to hold of for every step to keep it: the events of the part, one by one,
and the changes that the handler makes for a command. The steps that SAMPLE takes first (log 4) are those
events again. -/

namespace Sys2Proof.Machine

/-! ## Records that the handler accepts are valid (R141, R142, R149) -/

theorem firstFailing_eq_none {l : List (Nat × Bool)} :
    firstFailing l = none ↔ ∀ check ∈ l, check.2 = true := by
  induction l with
  | nil => simp [firstFailing]
  | cons check l ih =>
    obtain ⟨index, passes⟩ := check
    cases passes <;> simp [firstFailing, ih]

theorem within_iff {lo hi x : Nat} : within lo hi x = true ↔ lo ≤ x ∧ x ≤ hi := by
  simp [within]

/-- The number a string is called by names it alone. -/
theorem Str.ofNumber_eq {k : Nat} (h : 1 ≤ k ∧ k ≤ 8) : ∃ n, Str.ofNumber k = some n ∧ n.number = k := by
  obtain ⟨low, high⟩ := h
  interval_cases k <;> exact ⟨_, rfl, rfl⟩

theorem glideModeOf_valid {code : Nat} (h : [0, 1, 2, 4, 8].contains code = true) :
    (glideModeOf code).valid = true := by
  unfold glideModeOf
  split
  · rfl
  · next nonzero => simp_all [GlideMode.valid]

/-- The association entries of a record that passes its checks (R98, R141, R142). -/
theorem associationsOf_valid {n : Str} {r : List Byte} (ranges : associationsInRange r = true)
    (distinct : associationsDistinct n r = true) :
    (associationsOf r).length ≤ 2 ∧ (associationsOf r).all (Association.valid n) = true
    ∧ distinctSources (associationsOf r) = true := by
  have entry {source ratio : Nat} (h : within 1 8 source = true) :
      ∃ m, m.number = source ∧ associationOf source ratio = [⟨m, ratio⟩] := by
    obtain ⟨m, named, number⟩ := Str.ofNumber_eq (within_iff.mp h)
    exact ⟨m, number, by simp [associationOf, named]⟩
  have other {m : Str} {source : Nat} (number : m.number = source) (h : source ≠ n.number) : m ≠ n :=
    fun e => h (e ▸ number.symm)
  unfold associationsInRange associationsDistinct at *
  unfold associationsOf
  split
  · exact ⟨Nat.zero_le _, rfl, rfl⟩
  · next one =>
    simp [one] at ranges distinct
    obtain ⟨m, number, first⟩ := entry (ratio := field r 35) ranges.1
    simp [first, Association.valid, distinctSources, ranges.2, other number distinct]
  · next zero one =>
    have most : field r 33 ≤ 2 := by
      simp only [Bool.and_eq_true, decide_eq_true_eq] at ranges
      exact ranges.1.1
    have two : field r 33 = 2 := by
      have : field r 33 ≠ 0 := zero
      have : field r 33 ≠ 1 := one
      omega
    simp [two] at ranges distinct
    obtain ⟨⟨source1, ratio1⟩, source2, ratio2⟩ := ranges
    obtain ⟨m, number1, first⟩ := entry (ratio := field r 35) source1
    obtain ⟨k, number2, second⟩ := entry (ratio := field r 37) source2
    have apart : m ≠ k := fun e => distinct.2.2 (by rw [← number1, ← number2, e])
    simp [first, second, Association.valid, distinctSources, ratio1, ratio2, other number1 distinct.1,
      other number2 distinct.2.1, apart]

/-- A profile record that passes every check holds a valid profile (R141, R142). -/
theorem profileOf_valid {n : Str} {r : List Byte} (h : firstFailing (profileChecks n r) = none) :
    (profileOf r).Valid n := by
  rw [firstFailing_eq_none] at h
  simp only [profileChecks, List.forall_mem_append, List.forall_mem_cons, List.not_mem_nil, IsEmpty.forall_iff,
    implies_true, and_true, within_iff, decide_eq_true_eq, Bool.or_eq_true, beq_iff_eq] at h
  obtain ⟨⟨⟨f1, f2, f3, f4, f4', f5, f5', f6, f7, f8, f9, f10, f11, f12, f13⟩, f14, f15, f15', f16, f17, f17',
    f18, f18', f19, f20, f21, f22, f23⟩, f24, f25, f25', f26, f27, f28, f29, f30, f30', f31, f32, f33, f34,
    f35⟩ := h
  exact
    { openNote := f2, span := f3, downAllowance := ⟨f4.2, f4'⟩, bendRange := ⟨f5.1, f5.2, f5'⟩
      gainCode := f6.2, bandCode := f7.2, hysteresis := f8.2, persistence := f9, decayStep := f10
      edgeSpanCode := f11.2, attackGuard := f12.2, toleranceCode := f13, onThreshold := f14
      offThreshold := f15', dipMin := f17', dipMax := f17.2, releaseHoldCode := ⟨f18.2, f18'⟩
      surgeRatio := f19, surgeWindow := f20, surgeRefractory := f21, velocityWindow := f22
      velocityReference := f23, acquisitionLimit := ⟨f25.1, f25.2, f25'⟩, stepThreshold := f27
      stepHold := f28, lostLimit := f29, associations := associationsOf_valid f30 f30'
      bleedWindow := f31, glideMode := glideModeOf_valid f32, deadband := f33.2, slew := f34.2
      retriggerDrop := f35 }

/-- A global record that passes every check holds valid settings (R149). -/
theorem globalsOf_valid {r : List Byte} (h : firstFailing (globalChecks r) = none) :
    (globalsOf r).Valid := by
  rw [firstFailing_eq_none] at h
  simp only [globalChecks, List.forall_mem_cons, List.not_mem_nil, IsEmpty.forall_iff, implies_true, and_true,
    within_iff] at h
  obtain ⟨-, doze, wake, -, highWater⟩ := h
  exact ⟨doze.2, wake, highWater⟩

end Sys2Proof.Machine
end

section
/-! What a relation between states has to hold of for every step to keep it: the events of the part, one by one,
and the changes that the handler makes for a command. -/

namespace Sys2Proof.Machine

/-! ## The registers beyond the strings, the queue, the mute logic and the mode -/

/-- The settings, the clocks and the link stand. -/
structure Beyond (s t : State) : Prop where
  globals : t.globals = s.globals
  lock : t.lock = s.lock
  timebase : t.timebase = s.timebase
  timebaseRunning : t.timebaseRunning = s.timebaseRunning
  frameSamples : t.frameSamples = s.frameSamples
  link : t.link = s.link
  settle : t.modes.settle = s.modes.settle
  restart : t.modes.restart = s.modes.restart

theorem Beyond.refl (s : State) : Beyond s s := ⟨rfl, rfl, rfl, rfl, rfl, rfl, rfl, rfl⟩

theorem Beyond.trans {s t u : State} (h : Beyond s t) (k : Beyond t u) : Beyond s u :=
  ⟨k.globals.trans h.globals, k.lock.trans h.lock, k.timebase.trans h.timebase,
    k.timebaseRunning.trans h.timebaseRunning, k.frameSamples.trans h.frameSamples, k.link.trans h.link,
    k.settle.trans h.settle, k.restart.trans h.restart⟩

/-- The same, with the later change named first. -/
theorem Beyond.after {s t u : State} (k : Beyond t u) (h : Beyond s t) : Beyond s u := h.trans k

theorem Outside.beyond {s t : State} (h : Outside s t) : Beyond s t :=
  ⟨h.globals, h.lock, h.timebase, h.timebaseRunning, h.frameSamples, h.link, by rw [h.modes], by rw [h.modes]⟩

theorem forStrings_beyond {op : Str → State → State} (h : ∀ n s, OnlyString n s (op n s)) (l : List Str)
    (s : State) : Beyond s (forStrings op l s) :=
  (forStrings_outside op (fun n t => (h n t).outside) l s).beyond

theorem dampComes_beyond (s : State) : Beyond s (dampComes s) := by
  unfold dampComes
  refine (offerPlain_queueOnly (.notice .dampOn) s).outside.beyond.trans ?_
  generalize offerPlain (.notice .dampOn) s = t
  have added := (forEnabled_outside (fun n u => (addCause_onlyString .damp n u).outside)
    { t with mute := { t.mute with inForce := true } }).beyond
  exact added.after ⟨rfl, rfl, rfl, rfl, rfl, rfl, rfl, rfl⟩

theorem dampEnds_beyond (s : State) : Beyond s (dampEnds s) := by
  unfold dampEnds
  have removed := (forEnabled_outside (fun n u => (removeCause_onlyString .damp n u).outside)
    { s with mute := { s.mute with inForce := false } }).beyond
  exact (removed.trans (offerPlain_queueOnly ..).outside.beyond).after ⟨rfl, rfl, rfl, rfl, rfl, rfl, rfl, rfl⟩

theorem setDampMute_beyond (wanted : Bool) (s : State) : Beyond s (setDampMute wanted s) := by
  unfold setDampMute
  split
  · exact .refl s
  · split
    · exact dampComes_beyond s
    · exact dampEnds_beyond s

theorem dampAsserted_beyond (s : State) : Beyond s (dampAsserted s) := by
  unfold dampAsserted
  split
  · dsimp only
    split
    · exact ⟨rfl, rfl, rfl, rfl, rfl, rfl, rfl, rfl⟩
    · exact (setDampMute_beyond ..).after ⟨rfl, rfl, rfl, rfl, rfl, rfl, rfl, rfl⟩
    · exact (setDampMute_beyond ..).after ⟨rfl, rfl, rfl, rfl, rfl, rfl, rfl, rfl⟩
  · exact .refl s

theorem dampDeasserted_beyond (s : State) : Beyond s (dampDeasserted s) := by
  unfold dampDeasserted
  split
  · dsimp only
    split
    · exact (setDampMute_beyond ..).after ⟨rfl, rfl, rfl, rfl, rfl, rfl, rfl, rfl⟩
    · exact ⟨rfl, rfl, rfl, rfl, rfl, rfl, rfl, rfl⟩
    · exact ⟨rfl, rfl, rfl, rfl, rfl, rfl, rfl, rfl⟩
  · exact .refl s

theorem enterDoze_beyond (s : State) : Beyond s (enterDoze s) := by
  unfold enterDoze
  have judged := forStrings_beyond takeCompletion_onlyString Str.all s
  generalize forStrings takeCompletion Str.all s = t at judged
  have voiced := forStrings_beyond dozeVoice_onlyString Str.all
    (State.modAll { t with modes := { t.modes with mode := .doze, idle := 0, idleDue := false, wakeDue := false } }
      fun c => { c with detector := c.detector.doze })
  refine judged.trans (.trans (voiced.after ⟨rfl, rfl, rfl, rfl, rfl, rfl, rfl, rfl⟩) ?_)
  exact .after (t := State.modAll _ Channel.dozeBlocks) (offerPlain_queueOnly ..).outside.beyond
    ⟨rfl, rfl, rfl, rfl, rfl, rfl, rfl, rfl⟩

theorem idleDoze_beyond (s : State) : Beyond s (idleDoze s) := by
  unfold idleDoze
  split
  · exact enterDoze_beyond s
  · exact .refl s

theorem returnToRun_beyond (cause : WakeCause) (s : State) : Beyond s (returnToRun cause s) :=
  (offerPlain_queueOnly ..).outside.beyond.after ⟨rfl, rfl, rfl, rfl, rfl, rfl, rfl, rfl⟩

theorem wakeByString_beyond (order : List Str) (s : State) : Beyond s (wakeByString order s) := by
  unfold wakeByString
  split
  · split
    · exact ⟨rfl, rfl, rfl, rfl, rfl, rfl, rfl, rfl⟩
    · dsimp only
      exact (returnToRun_beyond _ s).trans
        ((forStrings_beyond wakeString_onlyString _ _).after ⟨rfl, rfl, rfl, rfl, rfl, rfl, rfl, rfl⟩)
  · exact .refl s

theorem endStart_beyond (s : State) : Beyond s (endStart s) := by
  unfold endStart
  split
  · dsimp only
    have measured : Beyond s (s.modAll fun c => { c with lane := c.lane.startEnd }) :=
      ⟨rfl, rfl, rfl, rfl, rfl, rfl, rfl, rfl⟩
    refine (measured.trans (forStrings_beyond enterQuiet_onlyString Str.all _)).trans ?_
    exact (offerPlain_queueOnly (.notice (.hello s.modes.causes)) _).outside.beyond.trans
      ⟨rfl, rfl, rfl, rfl, rfl, rfl, rfl, rfl⟩
  · exact .refl s

/-- Once what is due is taken, no frame end is owed (log 4). -/
theorem settle_frameSamples (s : State) : (settle s).frameSamples ≠ 8 := by
  have ended (damp : Bool) (t : State) : (takeFrameEnd damp t).frameSamples ≠ 8 := by
    by_cases due : t.frameSamples = 8
    · rw [takeFrameEnd_of_due due, modeFrameEnd_only]
      exact nofun
    · simp [takeFrameEnd, State.atFrameEnd, due]
  have timeout (t : State) : (byteTimeout t).frameSamples = t.frameSamples := by
    unfold byteTimeout
    split <;> rfl
  have detection (t : State) : (settleDetection t).frameSamples = t.frameSamples :=
    ((forStrings_beyond (fun n t => ((endClip_onlyString n t).trans (openBecomesInactive_onlyString n _)).trans
      (openBecomesActive_onlyString n _)) Str.all t).trans
      (forStrings_beyond (fun n t => (judge_onlyString n t).trans (takeCompletion_onlyString n _)) Str.all
        _)).frameSamples
  have timers (t : State) : (settleTimers t).frameSamples = t.frameSamples :=
    ((forStrings_beyond (fun n t => (((bleedStep_onlyString n t).trans (expireAcquisition_onlyString n _)).trans
      (expireStall_onlyString n _)).trans (expireLost_onlyString n _)) Str.all t).trans
      (forStrings_beyond (fun n t => (takeBoundary_onlyString n t).trans (expireDrop_onlyString n _)) Str.all
        _)).frameSamples
  have modes (t : State) : (settleModes t).frameSamples = t.frameSamples :=
    (((((dampAsserted_beyond t).trans (dampDeasserted_beyond _)).trans (idleDoze_beyond _)).trans
      (wakeByString_beyond [] _)).trans (forStrings_beyond takeCompletion_onlyString Str.all _)).frameSamples
  unfold settle settleFrame
  rw [modes, timers, detection, timeout, (endStart_beyond _).frameSamples]
  exact ended _ _

/-! ## A relation that every step keeps -/

/-- The relation holds between the states before and after every event of the part and every change that the
handler makes, and of the states along a chain of them. -/
structure Kept (R : State → State → Prop) : Prop where
  refl : ∀ s, R s s
  trans : ∀ {s t u}, R s t → R t u → R s u
  idle : ∀ s rest, R s { s with pending := rest }
  crossing : ∀ n s, R s (takeCrossing n s)
  estimate : ∀ n s, R s (takeEstimate n s)
  clipEnd : ∀ n s, R s (endClip n s)
  openActive : ∀ n s, R s (openBecomesActive n s)
  openEnd : ∀ n s, R s (openBecomesInactive n s)
  judgement : ∀ n s, R s (judge n s)
  completion : ∀ n s, R s (takeCompletion n s)
  bleed : ∀ n s, R s (bleedStep n s)
  acquisition : ∀ n s, R s (expireAcquisition n s)
  stall : ∀ n s, R s (expireStall n s)
  lost : ∀ n s, R s (expireLost n s)
  boundary : ∀ n s, R s (takeBoundary n s)
  drop : ∀ n s, R s (expireDrop n s)
  asserted : ∀ s, R s (dampAsserted s)
  deasserted : ∀ s, R s (dampDeasserted s)
  dozeEntry : ∀ s, s.modes.mode = .run → R s (enterDoze s)
  wakeByString : ∀ order s, R s (wakeByString order s)
  wakeByCommand : ∀ s, s.modes.mode = .doze → R s (wakeByCommand s)
  startEnd : ∀ s, R s (endStart s)
  frameEnd : ∀ damp s, R s (takeFrameEnd damp s)
  sample : ∀ signals order s, s.frameSamples ≠ 8 → R s (takeSample signals order s)
  receivedByte : ∀ b stopHigh s, R s (receiveByte b stopHigh s)
  byteTimeout : ∀ s, R s (byteTimeout s)
  transmitTake : ∀ s, R s (transmitTake s)
  frameSent : ∀ s, R s (frameSent s)
  restartReset : ∀ straps s, R s (restartReset straps s)
  powerOn : ∀ straps s, R s (powerOn straps s)
  supplyDrop : ∀ straps s, R s (supplyDrop straps s)
  pinReset : ∀ s, R s (pinReset s)
  pinReleased : ∀ straps s, R s (pinReleased straps s)
  taken : ∀ f rest s, s.link.buffer = f :: rest → R s { s with link := { s.link with buffer := rest } }
  reply : ∀ kind outcome data s, R s (reply kind outcome data s)
  causesCleared : ∀ s, R s { s with modes := { s.modes with causes := ⟨false, false, false, false⟩ } }
  flagsCleared : ∀ s, R s { s with queue := { s.queue with dropped := false },
                                   link := { s.link with overrun := false, frameErr := false } }
  staged : ∀ n p s, s.modes.mode ≠ .start → p.Valid n → (s.channel n).voice.state ≠ .quiet → R s (stage n p s)
  stagedQuiet : ∀ n p s, s.modes.mode ≠ .start → p.Valid n → (s.channel n).voice.state = .quiet →
    R s (commitProfile n (stage n p s))
  forceCommit : ∀ n s, s.modes.mode ≠ .start → R s (forceCommit n s)
  applyGlobals : ∀ g s, s.modes.mode ≠ .start → g.Valid → R s (applyGlobals g s)
  clearMarkers : ∀ kinds strings s, s.modes.mode ≠ .start → R s (clearMarkers kinds strings s)
  eventGate : ∀ gate s, s.modes.mode ≠ .start → R s { s with queue := { s.queue with gateOpen := gate } }
  flush : ∀ n s, s.modes.mode ≠ .start → R s (flushVoice n s)
  latchReleased : ∀ s, s.modes.mode ≠ .start → s.globals.dampMode = .latch → s.mute.latch = true →
    R s (setDampMute false (setLatch false s))
  locked : ∀ s, s.modes.mode ≠ .start → R s { s with lock := true }
  restartDue : ∀ s, s.modes.mode ≠ .start → R s { s with modes := { s.modes with restart := .due } }

namespace Kept

/-! ## What the handler makes of a command -/

theorem then_reply {R : State → State → Prop} (K : Kept R) {s t : State} (h : R s t) (kind : Byte)
    (outcome : ReplyOutcome) (data : List Byte) :
    R s (Sys2Proof.Machine.reply kind outcome data t) := K.trans h (K.reply ..)

theorem strings {R : State → State → Prop} (K : Kept R) {op : Str → State → State} (h : ∀ n s, R s (op n s))
    (l : List Str) (s : State) : R s (forStrings op l s) := by
  induction l generalizing s with
  | nil => exact K.refl s
  | cons n l ih => exact K.trans (h n s) (ih _)

/-- A command is taken from the buffer, refused by the common checks, or executed by its own rule (R166). -/
theorem command {R : State → State → Prop} (K : Kept R) {mine : Frame → Bool} {lengths : List Nat} {inStart : Bool}
    {rule : Byte → List Byte → State → State}
    (h : ∀ kind payload s, (s.modes.mode = .start → inStart = true) → R s (rule kind payload s)) (s : State) :
    R s (handle mine (Sys2Proof.Machine.command lengths inStart rule) s) := by
  unfold handle
  split
  · exact K.refl s
  · next f rest buffer =>
    split
    · refine K.trans (K.taken f rest s buffer) ?_
      unfold Sys2Proof.Machine.command
      split
      · exact K.reply ..
      · split
        · exact K.reply ..
        · next admitted =>
          exact h _ _ _ (by simpa using admitted)
    · exact K.refl s

theorem unknownKind {R : State → State → Prop} (K : Kept R) (s : State) :
    R s (handle isUnknown refuseUnknown s) := by
  unfold handle
  split
  · exact K.refl s
  · next f rest buffer =>
    split
    · exact K.trans (K.taken f rest s buffer) (K.reply ..)
    · exact K.refl s

theorem identRule {R : State → State → Prop} (K : Kept R) (kind : Byte) (payload : List Byte) (s : State) :
    R s (identRule kind payload s) := by
  unfold Sys2Proof.Machine.identRule
  split
  · exact K.reply ..
  · exact K.trans (K.reply ..) (K.causesCleared _)
  · exact K.reply ..

theorem setProfileRule {R : State → State → Prop} (K : Kept R) (kind : Byte) (payload : List Byte) (s : State)
    (started : s.modes.mode ≠ .start) : R s (setProfileRule kind payload s) := by
  unfold Sys2Proof.Machine.setProfileRule
  split
  · exact K.reply ..
  · split
    · exact K.reply ..
    · next n _ =>
      split
      · exact K.reply ..
      · next passes =>
        dsimp only
        split
        · next quiet => exact K.then_reply (K.stagedQuiet n _ s started (profileOf_valid passes) quiet) ..
        · next busy => exact K.then_reply (K.staged n _ s started (profileOf_valid passes) busy) ..

theorem getProfileRule {R : State → State → Prop} (K : Kept R) (kind : Byte) (payload : List Byte) (s : State) :
    R s (getProfileRule kind payload s) := by
  unfold Sys2Proof.Machine.getProfileRule
  split
  · exact K.reply ..
  · dsimp only
    split <;> exact K.reply ..

theorem commitRule {R : State → State → Prop} (K : Kept R) (kind : Byte) (payload : List Byte) (s : State)
    (started : s.modes.mode ≠ .start) : R s (commitRule kind payload s) := by
  unfold Sys2Proof.Machine.commitRule
  split
  · exact K.reply ..
  · next n _ =>
    split
    · exact K.then_reply (K.forceCommit n s started) ..
    · exact K.reply ..

theorem setGlobalRule {R : State → State → Prop} (K : Kept R) (kind : Byte) (payload : List Byte) (s : State)
    (started : s.modes.mode ≠ .start) : R s (setGlobalRule kind payload s) := by
  unfold Sys2Proof.Machine.setGlobalRule
  split
  · exact K.reply ..
  · split
    · exact K.reply ..
    · next passes => exact K.then_reply (K.applyGlobals _ s started (globalsOf_valid passes)) ..

theorem clearConditionsRule {R : State → State → Prop} (K : Kept R) (kind : Byte) (payload : List Byte)
    (s : State) (started : s.modes.mode ≠ .start) : R s (clearConditionsRule kind payload s) := by
  unfold Sys2Proof.Machine.clearConditionsRule
  split
  · exact K.reply ..
  · split
    · exact K.reply ..
    · exact K.then_reply (K.clearMarkers _ _ s started) ..

theorem eventsRule {R : State → State → Prop} (K : Kept R) (kind : Byte) (payload : List Byte) (s : State)
    (started : s.modes.mode ≠ .start) : R s (eventsRule kind payload s) := by
  unfold Sys2Proof.Machine.eventsRule
  split
  · exact K.then_reply (K.eventGate _ s started) ..
  · exact K.then_reply (K.eventGate _ s started) ..
  · exact K.reply ..

/-- FLUSH goes through the voices in RUN or DOZE, and the mode stands. -/
theorem flushRule {R : State → State → Prop} (K : Kept R) (kind : Byte) (payload : List Byte) (s : State)
    (started : s.modes.mode ≠ .start) : R s (flushRule kind payload s) := by
  have flushed (l : List Str) : ∀ t : State, t.modes.mode ≠ .start → R t (forStrings flushVoice l t) := by
    induction l with
    | nil => exact fun t _ => K.refl t
    | cons n l ih =>
      intro t mode
      exact K.trans (K.flush n t mode) (ih _ (by rwa [(flushVoice_onlyString n t).outside.modes]))
  exact K.then_reply (flushed Str.all s started) ..

theorem releaseDampRule {R : State → State → Prop} (K : Kept R) (kind : Byte) (payload : List Byte) (s : State)
    (started : s.modes.mode ≠ .start) : R s (releaseDampRule kind payload s) := by
  unfold Sys2Proof.Machine.releaseDampRule
  split
  · next released =>
    simp only [Bool.and_eq_true, decide_eq_true_eq] at released
    split
    · next latch => exact K.then_reply (K.latchReleased s started released.1 latch) ..
    · exact K.reply ..
  · exact K.reply ..

theorem dozeWakeRule {R : State → State → Prop} (K : Kept R) (kind : Byte) (payload : List Byte) (s : State) :
    R s (dozeWakeRule kind payload s) := by
  unfold Sys2Proof.Machine.dozeWakeRule
  split
  · refine K.then_reply ?_ ..
    split
    · next run => exact K.dozeEntry s run
    · exact K.refl s
  · refine K.then_reply ?_ ..
    split
    · next doze => exact K.wakeByCommand s doze
    · exact K.refl s
  · exact K.reply ..

theorem readVoiceRule {R : State → State → Prop} (K : Kept R) (kind : Byte) (payload : List Byte) (s : State) :
    R s (readVoiceRule kind payload s) := by
  unfold Sys2Proof.Machine.readVoiceRule
  split <;> exact K.reply ..

theorem restartRule {R : State → State → Prop} (K : Kept R) (kind : Byte) (payload : List Byte) (s : State)
    (started : s.modes.mode ≠ .start) : R s (restartRule kind payload s) := by
  unfold Sys2Proof.Machine.restartRule
  split
  · exact K.reply ..
  · exact K.trans (K.reply ..) (K.restartDue (Sys2Proof.Machine.reply ..) started)

/-! ## What SAMPLE takes first -/

theorem idleDoze {R : State → State → Prop} (K : Kept R) (s : State) : R s (idleDoze s) := by
  unfold Sys2Proof.Machine.idleDoze
  split
  · next due =>
    simp only [Bool.and_eq_true, decide_eq_true_eq] at due
    exact K.dozeEntry s due.1
  · exact K.refl s

theorem settle {R : State → State → Prop} (K : Kept R) (s : State) : R s (settle s) := by
  have restart : R s (settleRestart s) := by
    unfold settleRestart
    split
    · exact K.restartReset ..
    · exact K.refl s
  have estimates := K.strings (fun n t => K.trans (K.crossing n t) (K.estimate n _)) Str.all (settleRestart s)
  have frame (t : State) : R t (settleFrame t) :=
    K.trans (K.trans (K.frameEnd ..) (K.startEnd _)) (K.byteTimeout _)
  have detection (t : State) : R t (settleDetection t) :=
    K.trans (K.strings (fun n u => K.trans (K.trans (K.clipEnd n u) (K.openEnd n _)) (K.openActive n _)) Str.all t)
      (K.strings (fun n u => K.trans (K.judgement n u) (K.completion n _)) Str.all _)
  have timers (t : State) : R t (settleTimers t) :=
    K.trans (K.strings (fun n u => K.trans (K.trans (K.trans (K.bleed n u) (K.acquisition n _)) (K.stall n _))
        (K.lost n _)) Str.all t)
      (K.strings (fun n u => K.trans (K.boundary n u) (K.drop n _)) Str.all _)
  have modes (t : State) : R t (settleModes t) :=
    K.trans (K.trans (K.trans (K.trans (K.asserted t) (K.deasserted _)) (K.idleDoze _)) (K.wakeByString [] _))
      (K.strings K.completion Str.all _)
  exact K.trans (K.trans (K.trans (K.trans (K.trans restart estimates) (frame _)) (detection _)) (timers _))
    (modes _)

/-! ## Every step -/

/-- A step that acts while RESET_N is released makes its operation or nothing. -/
theorem of_next {R : State → State → Prop} (K : Kept R) {op : State → State} {s t : State}
    (h : ∀ s, R s (op s)) (e : (.next (s.live op) : Host.Outcome State Fault Refusal) = .next t) : R s t := by
  injection e with e
  rw [← e, State.live]
  split
  · exact K.refl s
  · exact h s

/-- A command that is refused in START is executed by its own rule in the other modes alone. -/
theorem of_command {R : State → State → Prop} (K : Kept R) {mine : Frame → Bool} {lengths : List Nat}
    {rule : Byte → List Byte → State → State} {s t : State}
    (h : ∀ kind payload s, s.modes.mode ≠ .start → R s (rule kind payload s))
    (e : (.next (s.live (handle mine (Sys2Proof.Machine.command lengths false rule)))
      : Host.Outcome State Fault Refusal) = .next t) : R s t :=
  K.of_next (K.command fun _ _ _ m => h _ _ _ fun start => Bool.false_ne_true (m start)) e

theorem exec {R : State → State → Prop} (K : Kept R) {i : Instr} {s t : State}
    (h : exec i s = .next t) : R s t := by
  cases i with
  | ident => exact K.of_next (K.command fun _ _ _ _ => K.identRule ..) h
  | status => exact K.of_next (K.command fun _ _ _ _ => K.trans (K.reply ..) (K.flagsCleared _)) h
  | setProfile => exact K.of_command K.setProfileRule h
  | getProfile => exact K.of_command (fun _ _ _ _ => K.getProfileRule ..) h
  | commit => exact K.of_command K.commitRule h
  | setGlobal => exact K.of_command K.setGlobalRule h
  | getGlobal => exact K.of_command (fun _ _ _ _ => K.reply ..) h
  | clearConditions => exact K.of_command K.clearConditionsRule h
  | events => exact K.of_command K.eventsRule h
  | flush => exact K.of_command K.flushRule h
  | releaseDamp => exact K.of_command K.releaseDampRule h
  | lock => exact K.of_command (fun _ _ _ m => K.then_reply (K.locked _ m) ..) h
  | doze => exact K.of_command (fun _ _ _ _ => K.dozeWakeRule ..) h
  | wake => exact K.of_command (fun _ _ _ _ => K.dozeWakeRule ..) h
  | readVoice => exact K.of_command (fun _ _ _ _ => K.readVoiceRule ..) h
  | restart => exact K.of_command K.restartRule h
  | unknownKind => exact K.of_next K.unknownKind h
  | receivedByte byte stopHigh => exact K.of_next (K.receivedByte byte stopHigh) h
  | interByteTimeout => exact K.of_next K.byteTimeout h
  | transmitTake => exact K.of_next K.transmitTake h
  | frameSent => exact K.of_next K.frameSent h
  | restartReset straps => exact K.of_next (K.restartReset straps) h
  | powerOn straps => injection h with h; exact h ▸ K.powerOn straps s
  | resetN => exact K.of_next K.pinReset h
  | supplyDrop straps => injection h with h; exact h ▸ K.supplyDrop straps s
  | startEnd => exact K.of_next K.startEnd h
  | sample signals order =>
    exact K.of_next (fun s => K.trans (K.settle s) (K.sample signals order _ (settle_frameSamples s))) h
  | crossing n => exact K.of_next (K.crossing n) h
  | estimate n => exact K.of_next (K.estimate n) h
  | frameEnd damp => exact K.of_next (K.frameEnd damp) h
  | clipEnd n => exact K.of_next (K.clipEnd n) h
  | openActive n => exact K.of_next (K.openActive n) h
  | openEnd n => exact K.of_next (K.openEnd n) h
  | articulationJudgement n => exact K.of_next (K.judgement n) h
  | releaseHoldExpiry n =>
    refine K.of_next (op := fun s => if reachesHold n s then judge n s else s) (fun s => ?_) h
    split
    · exact K.judgement n s
    · exact K.refl s
  | velocityCompletion n => exact K.of_next (K.completion n) h
  | bleedPerFrameStep n => exact K.of_next (K.bleed n) h
  | bleedWindowExpiry n =>
    refine K.of_next (op := fun s => if windowRunsOut n s then bleedStep n s else s) (fun s => ?_) h
    split
    · exact K.bleed n s
    · exact K.refl s
  | acquisitionExpiry n => exact K.of_next (K.acquisition n) h
  | stallExpiry n => exact K.of_next (K.stall n) h
  | lostLimitExpiry n => exact K.of_next (K.lost n) h
  | glideBoundary n => exact K.of_next (K.boundary n) h
  | retriggerDropExpiry n => exact K.of_next (K.drop n) h
  | dampAssertion => exact K.of_next K.asserted h
  | dampDeassertion => exact K.of_next K.deasserted h
  | idleDoze => exact K.of_next K.idleDoze h
  | wakeByString order => exact K.of_next (K.wakeByString order) h
  | resetNReleased straps => injection h with h; exact h ▸ K.pinReleased straps s

theorem step {R : State → State → Prop} (K : Kept R) {s t : State} (h : step s = .next t) : R s t := by
  unfold Sys2Proof.Machine.step at h
  split at h
  · injection h with h; exact h ▸ K.refl s
  · exact K.trans (K.idle s _) (K.exec h)

end Kept

end Sys2Proof.Machine
end

section
/-! What every operation leaves of a string's profiles and capture unit: the laws of both (R21, R23 to R25, R140,
R145) are kept, and the statement about the capture units. -/

namespace Sys2Proof.Machine

/-- The settings law of one string (R140, R145). -/
structure Channel.SettingsHeld (n : Str) (c : Channel) : Prop where
  active : c.active.Valid n
  staged : c.staged.Valid n
  copied : c.pendingFlag = false → c.staged = c.active

/-- What becomes of a string keeps the law of its capture unit and that of its settings. -/
structure Channel.Guards (n : Str) (c d : Channel) : Prop where
  capture : c.CaptureLaw → d.CaptureLaw
  settings : c.SettingsHeld n → d.SettingsHeld n

/-- What becomes of every string keeps both laws. -/
structure Guarded (s t : State) : Prop where
  string : ∀ n, (s.channel n).Guards n (t.channel n)

/-- The profiles and the capture unit stand. -/
structure Channel.SameUnit (c d : Channel) : Prop where
  active : d.active = c.active
  staged : d.staged = c.staged
  pendingFlag : d.pendingFlag = c.pendingFlag
  capture : d.capture = c.capture

theorem Channel.Guards.refl (n : Str) (c : Channel) : c.Guards n c := ⟨id, id⟩

theorem Channel.Guards.trans {n : Str} {c d e : Channel} (h : c.Guards n d) (k : d.Guards n e) :
    c.Guards n e := ⟨k.capture ∘ h.capture, k.settings ∘ h.settings⟩

/-- The settings law looks at the profiles and the pending flag alone. -/
theorem Channel.SettingsHeld.congr {n : Str} {c d : Channel} (held : c.SettingsHeld n)
    (active : d.active = c.active) (staged : d.staged = c.staged) (flag : d.pendingFlag = c.pendingFlag) :
    d.SettingsHeld n :=
  ⟨active ▸ held.active, staged ▸ held.staged, by rw [active, staged, flag]; exact held.copied⟩

theorem Channel.SameUnit.guards {c d : Channel} (h : c.SameUnit d) (n : Str) : c.Guards n d where
  capture law := by
    refine ⟨?_, ?_, ?_, ?_, ?_, ?_⟩ <;> rw [h.capture]
    · rw [h.active]; exact law.pmin
    · rw [h.active]; exact law.pmax
    · rw [h.active]; exact law.ring
    · exact law.guarded
    · exact law.age
    · exact law.ageBound
  settings held := held.congr h.active h.staged h.pendingFlag

theorem Channel.Guards.of_same {n : Str} {c d : Channel} (h : c.SameUnit d) : c.Guards n d := h.guards n

/-- A capture unit changed within its law guards the string. -/
theorem Channel.Guards.of_capture {n : Str} {c : Channel} {u : Capture}
    (h : c.CaptureLaw → ({ c with capture := u } : Channel).CaptureLaw) :
    c.Guards n { c with capture := u } := ⟨h, fun held => held.congr rfl rfl rfl⟩

/-! ## Over states -/

theorem Guarded.refl (s : State) : Guarded s s := ⟨fun n => .refl n _⟩

theorem Guarded.trans {s t u : State} (h : Guarded s t) (k : Guarded t u) : Guarded s u :=
  ⟨fun n => (h.string n).trans (k.string n)⟩

theorem Guarded.of_channels {s t : State} (h : t.channels = s.channels) : Guarded s t := by
  refine ⟨fun n => ?_⟩
  rw [← State.get_channels t, h]
  exact .refl n _

/-- The same before a later change. -/
theorem Guarded.of_shared {s s' t : State} (m : Guarded s' t) (h : s'.channels = s.channels) : Guarded s t :=
  (Guarded.of_channels h).trans m

theorem QueueOnly.guarded {s t : State} (h : QueueOnly s t) : Guarded s t := .of_channels h.channels

theorem Guarded.mod {s : State} {n : Str} {f : Channel → Channel}
    (h : (s.channel n).Guards n (f (s.channel n))) : Guarded s (s.mod n f) := by
  refine ⟨fun m => ?_⟩
  rw [State.channel_mod]
  split
  · next e => exact e ▸ h
  · exact .refl m _

theorem Guarded.same {s : State} {n : Str} {f : Channel → Channel}
    (h : (s.channel n).SameUnit (f (s.channel n))) : Guarded s (s.mod n f) := .mod (h.guards n)

theorem Guarded.modAll {s : State} {f : Channel → Channel} (h : ∀ n c, Channel.Guards n c (f c)) :
    Guarded s (s.modAll f) := by
  refine ⟨fun n => ?_⟩
  rw [State.channel_modAll]
  exact h n _

theorem Guarded.modAll_same {s : State} {f : Channel → Channel} (h : ∀ c : Channel, c.SameUnit (f c)) :
    Guarded s (s.modAll f) := .modAll fun _ c => .of_same (h c)

theorem forStrings_guarded {op : Str → State → State} (h : ∀ n s, Guarded s (op n s)) (l : List Str)
    (s : State) : Guarded s (forStrings op l s) :=
  forStrings_induct (P := Guarded s) op (fun n t g => g.trans (h n t)) l s (.refl s)

/-! ## The capture unit (R21, R23 to R25) -/

theorem intervals_append_pair (l : List Stamp) (a b : Stamp) :
    intervals (l ++ [a, b]) = intervals (l ++ [a]) ++ [interval a b] := by
  induction l with
  | nil => rfl
  | cons x l ih =>
    cases l with
    | nil => rfl
    | cons y l => exact congrArg (interval x y :: ·) ih

theorem mem_intervals_drop {k d : Nat} {l : List Stamp} (h : d ∈ intervals (l.drop k)) : d ∈ intervals l := by
  induction k generalizing l with
  | zero => exact h
  | succ k ih =>
    cases l with
    | nil => exact h
    | cons x l =>
      have tail := ih (l := l) h
      cases l with
      | nil => exact absurd tail List.not_mem_nil
      | cons y l => exact List.mem_cons_of_mem _ tail

theorem ringLawful_nil (pmin pmax : Nat) : ringLawful pmin pmax [] := ⟨by decide, nofun⟩

theorem ringLawful_single (pmin pmax : Nat) (t : Stamp) : ringLawful pmin pmax [t] := ⟨by simp, nofun⟩

/-- A ring that a crossing enters within the limits stays lawful, its newest 16 entries kept (R23, R27). -/
theorem ringLawful_enterRing {pmin pmax : Nat} {older : List Stamp} {last t : Stamp}
    (h : ringLawful pmin pmax (older ++ [last])) (low : pmin ≤ interval last t)
    (high : interval last t ≤ pmax) : ringLawful pmin pmax (enterRing (older ++ [last]) t) := by
  refine ⟨by simp [enterRing]; omega, fun d mem => ?_⟩
  rw [enterRing_append] at mem
  have all := mem_intervals_drop mem
  rw [intervals_append_pair, List.mem_append, List.mem_singleton] at all
  rcases all with mem | rfl
  · exact h.2 d mem
  · exact ⟨low, high⟩

/-- The unit of a string that a reset or a commit leaves is lawful (R37, R39). -/
theorem Capture.reset_lawful {c : Channel} {handed : Option Stamp} {delivered : Option Estimate}
    (h : c.capture = { Capture.reset c.active with handed := handed, delivered := delivered }) :
    c.CaptureLaw := by
  refine ⟨?_, ?_, ?_, ?_, ?_, ?_⟩ <;> rw [h]
  · rfl
  · rfl
  · exact ringLawful_nil ..
  · exact fun _ => rfl
  · exact fun _ => rfl
  · exact Nat.zero_le _

/-- An emptied ring is lawful under every guard count (R35, R38). -/
theorem Channel.CaptureLaw.emptied {c : Channel} (law : c.CaptureLaw) {guard : Nat} {handed : Option Stamp}
    {delivered : Option Estimate} :
    ({ c with capture := { c.capture with
      ring := [], age := 0, guard := guard, handed := handed, delivered := delivered } } : Channel).CaptureLaw :=
  ⟨law.pmin, law.pmax, ringLawful_nil .., fun _ => rfl, fun _ => rfl, Nat.zero_le _⟩

/-- An entry into an unguarded unit leaves it lawful, if the ring it leaves is. -/
theorem Channel.CaptureLaw.entry {c : Channel} (law : c.CaptureLaw) (free : c.capture.guard = 0)
    {ring : List Stamp} (lawful : ringLawful c.active.pmin c.active.pmax ring) :
    ({ c with capture := c.capture.entry c.active ring } : Channel).CaptureLaw := by
  rw [Capture.entry_eq]
  exact ⟨law.pmin, law.pmax, lawful, fun guarded => absurd guarded (by simp [free]), fun _ => rfl,
    Nat.zero_le _⟩

/-- A crossing leaves the unit lawful, by its judgement (R25 to R27). -/
theorem Channel.CaptureLaw.cross {c : Channel} (law : c.CaptureLaw) (t : Stamp) :
    ({ c with capture := c.capture.cross c.active t } : Channel).CaptureLaw := by
  by_cases guarded : 0 < c.capture.guard
  · rw [Capture.cross_of_guarded guarded]
    exact ⟨law.pmin, law.pmax, law.ring, fun _ => law.guarded guarded, law.age, law.ageBound⟩
  · have free : c.capture.guard = 0 := by omega
    rw [Capture.cross_of_unguarded free]
    rcases c.capture.ring.eq_nil_or_concat with empty | ⟨older, last, ring⟩
    · rw [Capture.judge_of_empty empty]
      exact law.entry free (ringLawful_single ..)
    · rw [List.concat_eq_append] at ring
      rw [Capture.judge_of_newest ring]
      by_cases old : 256 ≤ c.capture.age
      · rw [if_pos old]; exact law.entry free (ringLawful_single ..)
      by_cases short : (t - last).toNat < c.capture.pmin
      · rw [if_neg old, if_pos short]; exact law
      by_cases long : c.capture.pmax < (t - last).toNat
      · rw [if_neg old, if_neg short, if_pos long]; exact law.entry free (ringLawful_single ..)
      · rw [if_neg old, if_neg short, if_neg long, ring]
        refine law.entry free (ringLawful_enterRing (ring ▸ law.ring) ?_ ?_)
        · rw [← law.pmin]; exact Nat.not_lt.mp short
        · rw [← law.pmax]; exact Nat.not_lt.mp long

theorem takeCrossing_guarded (n : Str) (s : State) : Guarded s (takeCrossing n s) := by
  cases h : (s.channel n).capture.handed with
  | none => rw [takeCrossing_of_none h]; exact .refl s
  | some t =>
    rw [takeCrossing_of_handed h]
    refine .mod (.of_capture fun law => ?_)
    have taken : ({ s.channel n with
        capture := { (s.channel n).capture with handed := none } } : Channel).CaptureLaw :=
      ⟨law.pmin, law.pmax, law.ring, law.guarded, law.age, law.ageBound⟩
    exact taken.cross t

theorem restartRing_guarded (n : Str) (extension : Nat) (s : State) : Guarded s (restartRing n extension s) :=
  .mod (.of_capture fun law => law.emptied)

/-- The age count at a frame end stays lawful (R24). -/
theorem Channel.CaptureLaw.frameEnd {c : Channel} (law : c.CaptureLaw) :
    ({ c with capture := c.capture.frameEnd } : Channel).CaptureLaw := by
  rw [Capture.frameEnd_eq]
  refine ⟨law.pmin, law.pmax, law.ring, law.guarded, fun empty => ?_, ?_⟩
  · have empty : c.capture.ring = [] := empty
    rw [if_pos empty]; exact law.age empty
  · dsimp only
    have := law.ageBound
    split <;> omega

/-! ## Commits (R145) -/

theorem Channel.commit_staged (c : Channel) (damped : Bool) : (c.commit damped).staged = c.staged := by
  unfold commit
  dsimp only
  split
  · split <;> rfl
  · rfl

theorem Channel.commit_capture (c : Channel) (damped : Bool) :
    (c.commit damped).capture = c.capture.commit c.staged := by
  unfold commit
  dsimp only
  split
  · split <;> rfl
  · rfl

theorem Channel.commit_guards (n : Str) (c : Channel) (damped : Bool) : c.Guards n (c.commit damped) where
  capture _ := by
    have unit := c.commit_capture damped
    rw [← (c.commit_active damped).1] at unit
    unfold Capture.commit at unit
    split at unit
    · exact Capture.reset_lawful unit
    · exact Capture.reset_lawful (handed := none) (delivered := none) unit
  settings held := by
    refine ⟨?_, ?_, fun _ => ?_⟩
    · rw [(c.commit_active damped).1]; exact held.staged
    · rw [c.commit_staged]; exact held.staged
    · rw [c.commit_staged, (c.commit_active damped).1]

theorem commitProfile_guarded (n : Str) (s : State) : Guarded s (commitProfile n s) :=
  .mod ((s.channel n).commit_guards n s.mute.inForce)

theorem enterQuiet_guarded (n : Str) (s : State) : Guarded s (enterQuiet n s) := by
  unfold enterQuiet
  dsimp only
  split
  · exact (Guarded.same ⟨rfl, rfl, rfl, rfl⟩).trans (commitProfile_guarded n _)
  · exact .same ⟨rfl, rfl, rfl, rfl⟩

theorem stage_guarded {n : Str} {p : Profile} (valid : p.Valid n) (s : State) : Guarded s (stage n p s) :=
  .mod ⟨fun law => ⟨law.pmin, law.pmax, law.ring, law.guarded, law.age, law.ageBound⟩,
    fun held => ⟨held.active, valid, nofun⟩⟩

/-! ## Conditions and records -/

theorem Channel.setMarkers_sameUnit (k : StringKind) (m : Markers) (c : Channel) :
    c.SameUnit (c.setMarkers k m) := by cases k <;> exact ⟨rfl, rfl, rfl, rfl⟩

theorem offerPlain_guarded (r : Record) (s : State) : Guarded s (offerPlain r s) :=
  (offerPlain_queueOnly r s).guarded

theorem updateBacklog_guarded (s : State) : Guarded s (updateBacklog s) := (updateBacklog_queueOnly s).guarded

theorem raiseCondition_guarded (k : StringKind) (n : Str) (s : State) :
    Guarded s (raiseCondition k n s) := by
  have marked (t : State) (m : Markers) : Guarded t (t.mod n (Channel.setMarkers k m)) :=
    .same (Channel.setMarkers_sameUnit k m _)
  unfold raiseCondition
  dsimp only
  split
  · exact .refl s
  · split
    · exact marked ..
    · split
      · exact ((marked ..).trans (offerPlain_guarded ..)).trans (marked ..)
      · exact (marked ..).trans (refuse_queueOnly _).guarded

theorem clearActive_guarded (k : StringKind) (n : Str) (s : State) : Guarded s (clearActive k n s) :=
  .same (Channel.setMarkers_sameUnit k _ _)

theorem reportEnd_guarded (k : StringKind) (n : Str) (s : State) : Guarded s (reportEnd k n s) := by
  unfold reportEnd
  dsimp only
  split
  · split
    · exact (Guarded.same (Channel.setMarkers_sameUnit k _ _)).trans (offerPlain_guarded ..)
    · exact .same (Channel.setMarkers_sameUnit k _ _)
  · exact .refl s

theorem offerNoteOn_guarded (n : Str) (base velocity : Nat) (offset : Int) (flag : NoteFlag) (s : State) :
    Guarded s (offerNoteOn n base velocity offset flag s) := by
  unfold offerNoteOn
  extract_lets serial t room
  split
  · exact (((((Guarded.same ⟨rfl, rfl, rfl, rfl⟩).trans (.same ⟨rfl, rfl, rfl, rfl⟩)).trans
      (reserve_queueOnly ..).guarded).trans (append_queueOnly ..).guarded).trans (updateBacklog_guarded _))
  · exact (Guarded.same ⟨rfl, rfl, rfl, rfl⟩).trans (refuse_queueOnly _).guarded

theorem offerNoteOff_guarded (n : Str) (reason : OffReason) (s : State) :
    Guarded s (offerNoteOff n reason s) := by
  unfold offerNoteOff
  dsimp only
  split
  · exact (((Guarded.same ⟨rfl, rfl, rfl, rfl⟩).trans (unreserve_queueOnly ..).guarded).trans
      (append_queueOnly ..).guarded).trans (updateBacklog_guarded _)
  · exact .refl s

theorem offerPitchFix_guarded (n : Str) (base : Nat) (offset : Int) (s : State) :
    Guarded s (offerPitchFix n base offset s) := by
  unfold offerPitchFix
  dsimp only
  split
  · exact (((Guarded.same ⟨rfl, rfl, rfl, rfl⟩).trans (unreserve_queueOnly ..).guarded).trans
      (append_queueOnly ..).guarded).trans (updateBacklog_guarded _)
  · exact .refl s

theorem releaseFix_guarded (n : Str) (s : State) : Guarded s (releaseFix n s) := by
  unfold releaseFix
  split
  · exact ((Guarded.same ⟨rfl, rfl, rfl, rfl⟩).trans (unreserve_queueOnly ..).guarded).trans
      (updateBacklog_guarded _)
  · exact .refl s

theorem offerGlide_guarded (n : Str) (offset : Int) (s : State) : Guarded s (offerGlide n offset s) := by
  have told : Guarded s (s.mod n fun c =>
      { c with reporter := { c.reporter with lastReported := some offset } }) := .same ⟨rfl, rfl, rfl, rfl⟩
  unfold offerGlide
  dsimp only
  split
  · exact told.trans (.of_channels rfl)
  · exact (told.trans (append_queueOnly ..).guarded).trans (updateBacklog_guarded _)
  · exact (refuse_queueOnly s).guarded

theorem considerReport_guarded (n : Str) (offset : Int) (s : State) :
    Guarded s (considerReport n offset s) := by
  unfold considerReport
  dsimp only
  split
  · exact offerGlide_guarded ..
  · exact .refl s

theorem considerOutput_guarded (n : Str) (s : State) : Guarded s (considerOutput n s) := by
  unfold considerOutput
  split
  · exact considerReport_guarded ..
  · exact .refl s

theorem reportOnEstimate_guarded (n : Str) (s : State) : Guarded s (reportOnEstimate n s) := by
  unfold reportOnEstimate
  split
  · exact considerOutput_guarded n s
  · exact .refl s

/-! ## Notes and estimates -/

theorem lowerLine_guarded (n : Str) (s : State) : Guarded s (lowerLine n s) := by
  unfold lowerLine
  exact .same ⟨rfl, rfl, rfl, rfl⟩

theorem endNote_guarded (n : Str) (reason : OffReason) (s : State) : Guarded s (endNote n reason s) :=
  (offerNoteOff_guarded ..).trans (lowerLine_guarded ..)

theorem beginNote_guarded (n : Str) (base : Nat) (pitch : Option Nat) (offset : Int) (kind : StartKind)
    (flag : NoteFlag) (velocity : Nat) (s : State) :
    Guarded s (beginNote n base pitch offset kind flag velocity s) :=
  (offerNoteOn_guarded ..).trans (.same ⟨rfl, rfl, rfl, rfl⟩)

theorem raiseLine_guarded (n : Str) (s : State) : Guarded s (raiseLine n s) := by
  refine .same ?_
  dsimp only
  split <;> exact ⟨rfl, rfl, rfl, rfl⟩

theorem tryBegin_guarded (n : Str) (s : State) : Guarded s (tryBegin n s) := by
  unfold tryBegin
  dsimp only
  split
  · split
    · exact (beginNote_guarded ..).trans (raiseLine_guarded ..)
    · split
      · exact (beginNote_guarded ..).trans (raiseLine_guarded ..)
      · exact .refl s
    · exact .refl s
  · exact .refl s

theorem voiceCompletion_guarded (n : Str) (value : Nat) (s : State) :
    Guarded s (voiceCompletion n value s) := by
  unfold voiceCompletion
  dsimp only
  split
  · exact (Guarded.same ⟨rfl, rfl, rfl, rfl⟩).trans (tryBegin_guarded ..)
  · exact .refl s

theorem takeCompletion_guarded (n : Str) (s : State) : Guarded s (takeCompletion n s) := by
  unfold takeCompletion
  split
  · exact (Guarded.same ⟨rfl, rfl, rfl, rfl⟩).trans (voiceCompletion_guarded ..)
  · exact .refl s

theorem estimateAcquiring_guarded (n : Str) (e : Estimate) (s : State) :
    Guarded s (estimateAcquiring n e s) :=
  (Guarded.same ⟨rfl, rfl, rfl, rfl⟩).trans (tryBegin_guarded ..)

theorem settleStart_guarded (n : Str) (pitch : Nat) (s : State) : Guarded s (settleStart n pitch s) := by
  unfold settleStart
  dsimp only
  split
  · exact ((Guarded.same ⟨rfl, rfl, rfl, rfl⟩).trans (.same ⟨rfl, rfl, rfl, rfl⟩)).trans
      (offerPitchFix_guarded ..)
  · exact ((Guarded.same ⟨rfl, rfl, rfl, rfl⟩).trans (releaseFix_guarded ..)).trans
      (reportOnEstimate_guarded ..)

theorem nextNote_guarded (n : Str) (pitch : Nat) (reason : OffReason) (flag : NoteFlag) (s : State) :
    Guarded s (nextNote n pitch reason flag s) :=
  (offerNoteOff_guarded ..).trans (beginNote_guarded ..)

theorem bendTest_guarded (n : Str) (pitch : Nat) (s : State) : Guarded s (bendTest n pitch s) := by
  unfold bendTest
  dsimp only
  split
  · exact (considerReport_guarded ..).trans (nextNote_guarded ..)
  · exact reportOnEstimate_guarded ..

theorem setCurrent_guarded (n : Str) (pitch : Nat) (s : State) : Guarded s (s.mod n (.setCurrent pitch)) :=
  .same ⟨rfl, rfl, rfl, rfl⟩

theorem candidateTest_guarded (n : Str) (pitch : Nat) (s : State) : Guarded s (candidateTest n pitch s) := by
  have confirmed (t : State) : Guarded t (confirmCandidate n pitch t) := by
    unfold confirmCandidate
    dsimp only
    split
    · split
      · exact (setCurrent_guarded ..).trans (bendTest_guarded ..)
      · exact (setCurrent_guarded ..).trans (reportOnEstimate_guarded ..)
    · exact nextNote_guarded ..
  unfold candidateTest
  dsimp only
  split
  · exact (Guarded.same ⟨rfl, rfl, rfl, rfl⟩).trans (confirmed _)
  · exact .same ⟨rfl, rfl, rfl, rfl⟩

theorem readEstimate_guarded (n : Str) (pitch : Nat) (s : State) : Guarded s (readEstimate n pitch s) := by
  have reached : Guarded s (s.mod n (.modVoice (.confirmPitch s.atFrameEnd))) := .same ⟨rfl, rfl, rfl, rfl⟩
  unfold readEstimate
  dsimp only
  refine reached.trans ?_
  split
  · split
    · exact (setCurrent_guarded ..).trans (reportOnEstimate_guarded ..)
    · exact candidateTest_guarded ..
  · exact (setCurrent_guarded ..).trans (bendTest_guarded ..)
  · split
    · exact (setCurrent_guarded ..).trans (bendTest_guarded ..)
    · exact candidateTest_guarded ..

theorem takeEstimate_guarded (n : Str) (s : State) : Guarded s (takeEstimate n s) := by
  have reached (e : Estimate) (t : State) : Guarded t (voiceEstimate n e t) := by
    unfold voiceEstimate estimateSounding
    split
    · exact .same ⟨rfl, rfl, rfl, rfl⟩
    · exact estimateAcquiring_guarded ..
    · split
      · exact .refl t
      · split
        · exact readEstimate_guarded ..
        · exact settleStart_guarded ..
    all_goals exact .refl t
  unfold takeEstimate
  split
  · refine Guarded.trans (.mod (.of_capture fun law => ?_)) (reached ..)
    exact ⟨law.pmin, law.pmax, law.ring, law.guarded, law.age, law.ageBound⟩
  · exact .refl s

/-! ## Attacks, releases and timers -/

/-- A bleed test's result moves the voice and its blocks alone. -/
theorem tested_guarded (n : Str) (pass : Bool) (velocity : Option Nat) (carried : Nat) (s : State) :
    Guarded s (s.mod n (if pass then .acquiring velocity carried else .suspecting velocity carried)) :=
  .same (by cases pass <;> exact ⟨rfl, rfl, rfl, rfl⟩)

theorem voiceOnset_guarded (n : Str) (wakeMark : Bool) (s : State) : Guarded s (voiceOnset n wakeMark s) := by
  unfold voiceOnset
  split
  · exact (restartRing_guarded ..).trans (tested_guarded ..)
  · exact .refl s

theorem voiceRestrike_guarded (n : Str) (prior : Nat) (s : State) : Guarded s (voiceRestrike n prior s) := by
  unfold voiceRestrike
  dsimp only
  split
  · exact (restartRing_guarded ..).trans (tested_guarded ..)
  · split
    · exact (restartRing_guarded ..).trans (.same ⟨rfl, rfl, rfl, rfl⟩)
    · exact .same ⟨rfl, rfl, rfl, rfl⟩
  · split
    · exact ((endNote_guarded ..).trans (restartRing_guarded ..)).trans (.same ⟨rfl, rfl, rfl, rfl⟩)
    · exact .refl s
  · exact (restartRing_guarded ..).trans (tested_guarded ..)
  all_goals exact .refl s

theorem modDetector_guarded (n : Str) (f : Channel → Detector) (s : State) : Guarded s (modDetector n f s) :=
  .same ⟨rfl, rfl, rfl, rfl⟩

theorem attackGate_guarded {n : Str} {reference : Nat} {arrive : State → State} {s : State}
    (h : ∀ t, Guarded t (arrive t)) : Guarded s (attackGate n reference arrive s) :=
  (modDetector_guarded ..).trans (h _)

theorem releaseGate_guarded (n : Str) (s : State) : Guarded s (releaseGate n s) := by
  have released (t : State) : Guarded t (voiceRelease n t) := by
    unfold voiceRelease
    cases (t.channel n).voice.state with
    | sounding => exact (endNote_guarded ..).trans (enterQuiet_guarded ..)
    | suspect | acquiring | silent => exact enterQuiet_guarded ..
    | quiet | muted => exact .refl _
  exact (modDetector_guarded ..).trans (released _)

theorem judge_guarded (n : Str) (s : State) : Guarded s (judge n s) := by
  have acted (v : Verdict) (t : State) : Guarded t (actOn n v t) := by
    cases v <;> unfold actOn <;> dsimp only
    case stays => exact modDetector_guarded ..
    case clearsWait => exact modDetector_guarded ..
    case onset => exact attackGate_guarded (voiceOnset_guarded n false)
    case entersDip => exact (modDetector_guarded ..).trans (modDetector_guarded ..)
    case flutter => exact (modDetector_guarded ..).trans (modDetector_guarded ..)
    case surge => exact attackGate_guarded (voiceRestrike_guarded n _)
    case restrike => exact attackGate_guarded (voiceRestrike_guarded n _)
    case release => exact releaseGate_guarded n t
    case releaseOnset =>
      split
      · exact (releaseGate_guarded n t).trans (attackGate_guarded (voiceOnset_guarded n false))
      · exact releaseGate_guarded n t
  unfold judge
  dsimp only
  split
  · exact (modDetector_guarded ..).trans (acted ..)
  · exact .refl s

theorem bleedStep_guarded (n : Str) (s : State) : Guarded s (bleedStep n s) := by
  have passed : Guarded s (passSuspicion n s) := by
    unfold passSuspicion
    dsimp only
    split
    · exact .same ⟨rfl, rfl, rfl, rfl⟩
    · exact (Guarded.same ⟨rfl, rfl, rfl, rfl⟩).trans (estimateAcquiring_guarded ..)
  unfold bleedStep
  split
  · exact .refl s
  · split
    · split
      · exact .refl s
      · exact passed
    · split <;> exact .same ⟨rfl, rfl, rfl, rfl⟩

theorem expireAcquisition_guarded (n : Str) (s : State) : Guarded s (expireAcquisition n s) := by
  unfold expireAcquisition
  dsimp only
  split
  · exact (Guarded.same ⟨rfl, rfl, rfl, rfl⟩).trans (tryBegin_guarded ..)
  · exact .refl s

theorem expireStall_guarded (n : Str) (s : State) : Guarded s (expireStall n s) := by
  unfold expireStall
  dsimp only
  split
  · exact .same ⟨rfl, rfl, rfl, rfl⟩
  · exact .refl s

theorem expireLost_guarded (n : Str) (s : State) : Guarded s (expireLost n s) := by
  unfold expireLost
  dsimp only
  split
  · exact (endNote_guarded ..).trans (.same ⟨rfl, rfl, rfl, rfl⟩)
  · exact .refl s

theorem takeBoundary_guarded (n : Str) (s : State) : Guarded s (takeBoundary n s) := by
  unfold takeBoundary
  split
  · exact (Guarded.same ⟨rfl, rfl, rfl, rfl⟩).trans (considerOutput_guarded ..)
  · exact .refl s

theorem expireDrop_guarded (n : Str) (s : State) : Guarded s (expireDrop n s) := by
  unfold expireDrop
  split
  · exact .same ⟨rfl, rfl, rfl, rfl⟩
  · exact .refl s

/-! ## CLIP, OPEN and mutes -/

theorem endClip_guarded (n : Str) (s : State) : Guarded s (endClip n s) := by
  unfold endClip
  dsimp only
  split
  · exact ((Guarded.same ⟨rfl, rfl, rfl, rfl⟩).trans (clearActive_guarded ..)).trans (reportEnd_guarded ..)
  · exact .refl s

theorem Channel.setCause_sameUnit (cause : MuteCause) (present : Bool) (c : Channel) :
    c.SameUnit (c.modVoice (.setCause cause present)) := ⟨rfl, rfl, rfl, rfl⟩

theorem addCause_guarded (cause : MuteCause) (n : Str) (s : State) : Guarded s (addCause cause n s) := by
  unfold addCause
  dsimp only
  split
  · exact .same (Channel.setCause_sameUnit ..)
  · split
    · exact (endNote_guarded ..).trans (.same ⟨rfl, rfl, rfl, rfl⟩)
    · exact .same ⟨rfl, rfl, rfl, rfl⟩

theorem removeCause_guarded (cause : MuteCause) (n : Str) (s : State) : Guarded s (removeCause cause n s) := by
  have removed : Guarded s (s.mod n (.modVoice (.setCause cause false))) := .same (Channel.setCause_sameUnit ..)
  unfold removeCause
  dsimp only
  split
  · refine removed.trans ?_
    split
    · exact .refl _
    · split
      · exact enterQuiet_guarded ..
      · exact .same ⟨rfl, rfl, rfl, rfl⟩
  · exact .refl s

theorem openBecomesActive_guarded (n : Str) (s : State) : Guarded s (openBecomesActive n s) := by
  unfold openBecomesActive
  dsimp only
  split
  · exact ((Guarded.same ⟨rfl, rfl, rfl, rfl⟩).trans (raiseCondition_guarded ..)).trans (addCause_guarded ..)
  · exact .refl s

theorem openBecomesInactive_guarded (n : Str) (s : State) : Guarded s (openBecomesInactive n s) := by
  unfold openBecomesInactive
  dsimp only
  split
  · exact (((Guarded.same ⟨rfl, rfl, rfl, rfl⟩).trans (clearActive_guarded ..)).trans
      (removeCause_guarded ..)).trans (reportEnd_guarded ..)
  · exact .refl s

theorem setDampMute_guarded (wanted : Bool) (s : State) : Guarded s (setDampMute wanted s) := by
  have enabled {op : Str → State → State} (h : ∀ n s, Guarded s (op n s)) (t : State) :
      Guarded t (forEnabled op t) :=
    forStrings_guarded (fun n u => by split; exacts [h n u, .refl u]) _ t
  unfold setDampMute dampComes dampEnds
  split
  · exact .refl s
  · split
    · exact (offerPlain_guarded ..).trans
        (Guarded.of_shared (enabled (addCause_guarded .damp) _) rfl)
    · have removed := enabled (removeCause_guarded .damp) { s with mute := { s.mute with inForce := false } }
      exact Guarded.of_shared (removed.trans (offerPlain_guarded ..)) rfl

theorem dampAsserted_guarded (s : State) : Guarded s (dampAsserted s) := by
  unfold dampAsserted
  split
  · dsimp only
    split
    · exact .of_channels rfl
    · exact Guarded.of_shared (setDampMute_guarded ..) rfl
    · exact Guarded.of_shared (setDampMute_guarded ..) rfl
  · exact .refl s

theorem dampDeasserted_guarded (s : State) : Guarded s (dampDeasserted s) := by
  unfold dampDeasserted
  split
  · dsimp only
    split
    · exact Guarded.of_shared (setDampMute_guarded ..) rfl
    · exact .of_channels rfl
    · exact .of_channels rfl
  · exact .refl s

theorem applyGlobals_guarded (g : Globals) (s : State) : Guarded s (applyGlobals g s) := by
  have changed : Guarded s (changeDampMode g.dampMode s) := by
    unfold changeDampMode
    dsimp only
    split
    · exact .refl s
    · split
      · exact Guarded.of_shared (setDampMute_guarded ..) rfl
      · exact Guarded.of_shared (setDampMute_guarded ..) rfl
      · split
        · exact .of_channels rfl
        · exact Guarded.of_shared (setDampMute_guarded ..) rfl
  exact changed.trans (Guarded.of_shared (updateBacklog_guarded _) rfl)

/-! ## The whole part -/

theorem flushVoice_guarded (n : Str) (s : State) : Guarded s (flushVoice n s) := by
  have settled (t : State) : Guarded t (if (t.channel n).detector.gate = .closed then enterQuiet n t
      else t.mod n (.entering .silent)) := by
    split
    · exact enterQuiet_guarded n t
    · exact .same ⟨rfl, rfl, rfl, rfl⟩
  unfold flushVoice
  dsimp only
  split
  · exact (endNote_guarded ..).trans (settled _)
  · exact settled s
  · exact settled s
  all_goals exact .refl s

theorem forceCommit_guarded (n : Str) (s : State) : Guarded s (forceCommit n s) := by
  unfold forceCommit
  dsimp only
  refine (takeCompletion_guarded n s).trans (Guarded.trans ?_ (modDetector_guarded ..))
  cases ((takeCompletion n s).channel n).voice.state with
  | sounding => exact (endNote_guarded ..).trans (enterQuiet_guarded ..)
  | quiet | suspect | acquiring | silent => exact enterQuiet_guarded ..
  | muted => exact commitProfile_guarded ..

theorem enterDoze_guarded (s : State) : Guarded s (enterDoze s) := by
  have voiced (n : Str) (t : State) : Guarded t (dozeVoice n t) := by
    unfold dozeVoice
    cases (t.channel n).voice.state with
    | sounding => exact (offerNoteOff_guarded ..).trans (enterQuiet_guarded ..)
    | suspect | acquiring | silent => exact enterQuiet_guarded n t
    | quiet | muted => exact .refl t
  have closed (t : State) : Guarded t (t.modAll fun c => { c with detector := c.detector.doze }) :=
    .modAll_same fun _ => ⟨rfl, rfl, rfl, rfl⟩
  have left (t : State) : Guarded t (t.modAll Channel.dozeBlocks) :=
    .modAll fun n c => ⟨fun law =>
      ⟨law.pmin, law.pmax, ringLawful_nil .., fun _ => rfl, fun _ => rfl, Nat.zero_le _⟩,
      fun held => held.congr rfl rfl rfl⟩
  unfold enterDoze
  exact (forStrings_guarded takeCompletion_guarded _ s).trans (Guarded.of_shared
    ((((closed _).trans (forStrings_guarded voiced _ _)).trans (left _)).trans (offerPlain_guarded ..)) rfl)

theorem returnToRun_guarded (cause : WakeCause) (s : State) : Guarded s (returnToRun cause s) :=
  Guarded.of_shared (offerPlain_guarded ..) rfl

theorem wakeString_guarded (n : Str) (s : State) : Guarded s (wakeString n s) :=
  attackGate_guarded (voiceOnset_guarded n true)

theorem wakeByString_guarded (order : List Str) (s : State) : Guarded s (wakeByString order s) := by
  unfold wakeByString
  split
  · split
    · exact .of_channels rfl
    · refine Guarded.trans ?_ (forStrings_guarded wakeString_guarded _ _)
      exact (returnToRun_guarded ..).trans (.modAll_same fun _ => ⟨rfl, rfl, rfl, rfl⟩)
  · exact .refl s

theorem wakeByCommand_guarded (s : State) : Guarded s (wakeByCommand s) := by
  unfold wakeByCommand
  exact (returnToRun_guarded ..).trans (.modAll_same fun _ => ⟨rfl, rfl, rfl, rfl⟩)

theorem endStart_guarded (s : State) : Guarded s (endStart s) := by
  unfold endStart
  split
  · dsimp only
    have measured : Guarded s (s.modAll fun c => { c with lane := c.lane.startEnd }) :=
      .modAll_same fun _ => ⟨rfl, rfl, rfl, rfl⟩
    have greeted := (measured.trans (forStrings_guarded enterQuiet_guarded Str.all _)).trans
      (offerPlain_guarded (.notice (.hello s.modes.causes)) _)
    exact greeted.trans (.of_channels rfl)
  · exact .refl s

theorem Channel.frameEnd_guards (n : Str) (mode : Mode) (c : Channel) : c.Guards n (c.frameEnd mode) := by
  cases mode with
  | run =>
    rw [frameEnd_run]
    refine ⟨fun law => ?_, fun held => held.congr rfl rfl rfl⟩
    have ended := law.frameEnd
    exact ⟨ended.pmin, ended.pmax, ended.ring, ended.guarded, ended.age, ended.ageBound⟩
  | start => exact .of_same ⟨rfl, rfl, rfl, rfl⟩
  | doze => exact .of_same ⟨rfl, rfl, rfl, rfl⟩

theorem takeFrameEnd_guarded (damp : Bool) (s : State) : Guarded s (takeFrameEnd damp s) := by
  by_cases due : s.frameSamples = 8
  · rw [takeFrameEnd_of_due due, modeFrameEnd_only]
    have ended : Guarded s s.blocksEnded :=
      ⟨fun n => by rw [State.blocksEnded_channel]; exact Channel.frameEnd_guards n _ _⟩
    exact ended.trans (.of_channels rfl)
  · simpa [takeFrameEnd, State.atFrameEnd, due] using Guarded.refl s

/-- A sample hands a crossing on and changes nothing else of the capture unit. -/
theorem Channel.sample_guards (n : Str) (mode : Mode) (stamp : Stamp) (signal : Int) (c : Channel) :
    c.Guards n (c.sample mode stamp signal) := by
  rw [sample_only]
  by_cases start : mode = .start
  · rw [start]; exact .of_same ⟨rfl, rfl, rfl, rfl⟩
  · rw [sample_capture start]
    exact ⟨fun law => ⟨law.pmin, law.pmax, law.ring, law.guarded, law.age, law.ageBound⟩,
      fun held => held.congr rfl rfl rfl⟩

theorem takeSample_guarded (signals : Eight Int) (order : List Str) (s : State) :
    Guarded s (takeSample signals order s) := by
  have clipped (n : Str) (t : State) : Guarded t (clipAtSample signals n t) := by
    unfold clipAtSample
    dsimp only
    split
    · exact raiseCondition_guarded ..
    · exact .refl t
  rw [takeSample_eq]
  refine Guarded.trans ⟨fun n => ?_⟩ (forStrings_guarded clipped _ _)
  rw [State.sampled_channel]
  exact Channel.sample_guards ..

theorem clearMarkers_guarded (kinds : KindSet) (strings : List Str) (s : State) :
    Guarded s (clearMarkers kinds strings s) :=
  (forStrings_guarded (fun _ _ => .same ⟨rfl, rfl, rfl, rfl⟩) strings s).trans (.of_channels rfl)

theorem transmitTake_guarded (s : State) : Guarded s (transmitTake s) := by
  unfold transmitTake
  split
  · split
    · exact .of_channels rfl
    · split
      · exact Guarded.of_shared (updateBacklog_guarded _) rfl
      · exact .refl s
    · exact .refl s
  · exact .refl s

/-! ## Resets (R151) -/

/-- The default profile of every string is valid (R140 to R142). -/
theorem defaultProfile_valid (n : Str) : (defaultProfile n).Valid n := by
  cases n <;> constructor <;> decide

theorem Channel.reset_captureLaw (active staged : Profile) (pendingFlag : Bool) :
    (Channel.reset active staged pendingFlag).CaptureLaw :=
  Capture.reset_lawful (handed := none) (delivered := none) rfl

theorem Channel.default_settingsHeld (n : Str) : (Channel.default n).SettingsHeld n :=
  ⟨defaultProfile_valid n, defaultProfile_valid n, fun _ => rfl⟩

theorem State.afterReset_channel (channels : Eight Channel) (globals : Globals) (causes : Causes)
    (straps : Straps) (s : State) (n : Str) :
    (s.afterReset channels globals causes straps).channel n = channels.get n := rfl

theorem defaulted_guarded (causes : Causes) (straps : Straps) (s : State) :
    Guarded s (s.defaulted causes straps) := by
  refine ⟨fun n => ?_⟩
  rw [State.defaulted, State.afterReset_channel, Eight.get_of]
  exact ⟨fun _ => Channel.reset_captureLaw .., fun _ => Channel.default_settingsHeld n⟩

theorem restartReset_guarded (straps : Straps) (s : State) : Guarded s (restartReset straps s) := by
  unfold restartReset
  split
  · refine ⟨fun n => ?_⟩
    rw [State.afterReset_channel, Eight.get_of]
    exact ⟨fun _ => Channel.reset_captureLaw .., fun held => held.congr rfl rfl rfl⟩
  · exact .refl s

/-! ## Every step -/

/-- Every event of the part keeps the laws of the profiles and of the capture units. -/
theorem guarded_kept : Kept Guarded where
  refl := .refl
  trans := .trans
  idle _ _ := .of_channels rfl
  crossing := takeCrossing_guarded
  estimate := takeEstimate_guarded
  clipEnd := endClip_guarded
  openActive := openBecomesActive_guarded
  openEnd := openBecomesInactive_guarded
  judgement := judge_guarded
  completion := takeCompletion_guarded
  bleed := bleedStep_guarded
  acquisition := expireAcquisition_guarded
  stall := expireStall_guarded
  lost := expireLost_guarded
  boundary := takeBoundary_guarded
  drop := expireDrop_guarded
  asserted := dampAsserted_guarded
  deasserted := dampDeasserted_guarded
  dozeEntry s _ := enterDoze_guarded s
  wakeByString := wakeByString_guarded
  wakeByCommand s _ := wakeByCommand_guarded s
  startEnd := endStart_guarded
  frameEnd := takeFrameEnd_guarded
  sample signals order s _ := takeSample_guarded signals order s
  receivedByte b stopHigh s := by
    unfold receiveByte
    dsimp only
    split
    · split <;> exact .of_channels rfl
    · exact .of_channels rfl
  byteTimeout s := by
    unfold byteTimeout
    split <;> exact .of_channels rfl
  transmitTake := transmitTake_guarded
  frameSent s := by
    unfold frameSent
    split <;> exact .of_channels rfl
  restartReset := restartReset_guarded
  powerOn _ s := defaulted_guarded _ _ s
  supplyDrop _ s := defaulted_guarded _ _ s
  pinReset s := by
    have reset := defaulted_guarded { s.modes.causes with pin := true } s.link.straps s
    exact reset.trans (.of_channels rfl)
  pinReleased straps s := by
    unfold pinReleased
    split <;> exact .of_channels rfl
  taken _ _ _ _ := .of_channels rfl
  reply _ _ _ _ := .of_channels rfl
  causesCleared _ := .of_channels rfl
  flagsCleared _ := .of_channels rfl
  staged _ _ s _ valid _ := stage_guarded valid s
  stagedQuiet _ _ s _ valid _ := (stage_guarded valid s).trans (commitProfile_guarded ..)
  forceCommit n s _ := forceCommit_guarded n s
  applyGlobals g s _ _ := applyGlobals_guarded g s
  clearMarkers kinds strings s _ := clearMarkers_guarded kinds strings s
  eventGate _ _ _ := .of_channels rfl
  flush n s _ := flushVoice_guarded n s
  latchReleased _ _ _ _ := Guarded.of_shared (setDampMute_guarded ..) rfl
  locked _ _ := .of_channels rfl
  restartDue _ _ := .of_channels rfl

/-- Settles O58: every event guards the capture unit of every string. -/
theorem captureLawIsKept : Obligations.CaptureLawIsKept :=
  fun _ _ law taken n => ((guarded_kept.step taken).string n).capture (law n)

end Sys2Proof.Machine
end

section
/-! The law of the markers (R152, R154) and the law that no string has two queued GLIDEs (R130) through every
step. -/

namespace Sys2Proof.Machine

/-! ## One GLIDE for each string -/

/-- A list of records holds at most one GLIDE for each string (R130). -/
def OneGlideEach (rs : List Record) : Prop := ∀ n, (rs.filter (Record.isGlideOf n)).length ≤ 1

/-- Records that are no GLIDE may join. -/
theorem OneGlideEach.append {rs extra : List Record} (h : OneGlideEach rs)
    (none : ∀ n, ∀ r ∈ extra, r.isGlideOf n = false) : OneGlideEach (rs ++ extra) := fun n => by
  have empty : extra.filter (Record.isGlideOf n) = [] :=
    List.filter_eq_nil_iff.mpr fun r mem => by simp [none n r mem]
  rw [List.filter_append, empty, List.append_nil]
  exact h n

theorem Record.isGlideOf_of_isBacklog {r : Record} (h : r.isBacklog = true) (n : Str) :
    r.isGlideOf n = false := by
  cases r with
  | condition => rfl
  | _ => cases h

theorem OneGlideEach.joined {s t : State} (h : OneGlideEach s.queue.records) (j : Joined s t []) :
    OneGlideEach t.queue.records := by
  obtain ⟨⟨extra, records, backlog⟩, -⟩ := j
  rw [records, List.append_nil]
  exact h.append fun n r mem => Record.isGlideOf_of_isBacklog (List.all_eq_true.mp backlog r mem) n

/-- A GLIDE whose offset is replaced is the same string's GLIDE (R130). -/
theorem OneGlideEach.merged {rs : List Record} (h : OneGlideEach rs) (n : Str) (offset : Int) :
    OneGlideEach (mergeGlide n offset rs) := fun m => by
  have same (r : Record) : (match r with
      | .glide k serial old => if k = n then Record.glide k serial offset else .glide k serial old
      | r => r).isGlideOf m = r.isGlideOf m := by
    cases r with
    | glide k serial old => dsimp only; split <;> rfl
    | _ => rfl
  have length := h m
  unfold mergeGlide
  rw [List.filter_map, List.length_map]
  convert length using 3
  exact funext same

/-- A GLIDE is admitted where its string has none (R130). -/
theorem OneGlideEach.admitted {rs : List Record} (h : OneGlideEach rs) {n : Str}
    (none : rs.any (Record.isGlideOf n) = false) (serial : Byte) (offset : Int) :
    OneGlideEach (rs ++ [.glide n serial offset]) := fun m => by
  rw [List.filter_append, List.length_append]
  by_cases own : n = m
  · subst own
    have empty : rs.filter (Record.isGlideOf n) = [] :=
      List.filter_eq_nil_iff.mpr fun r mem => by simpa using List.any_eq_false.mp none r mem
    rw [empty]
    exact (Nat.zero_add _).trans_le (List.length_filter_le ..)
  · have other : [Record.glide n serial offset].filter (Record.isGlideOf m) = [] := by
      simp [Record.isGlideOf, own]
    rw [other]
    exact h m

/-- What is made of a state with one GLIDE for each string has one for each. -/
theorem Made.oneGlide {s t : State} (made : Made s t) (law : OneGlideLaw s) : OneGlideLaw t := by
  induction made with
  | refl => exact law
  | trans _ _ first second => exact second (first law)
  | strings _ queue => intro n; rw [queue]; exact law n
  | reserve => exact law
  | unreserve => exact law
  | append s r h =>
    exact OneGlideEach.append (extra := [r]) law fun n x mem => by rw [List.mem_singleton.mp mem]; exact h n
  | refuse => exact law
  | compare s => exact OneGlideEach.joined law (updateBacklog_joined s)
  | glide n offset s =>
    unfold offerGlide
    cases answer : glideAnswer n s
    case merged => exact OneGlideEach.merged law n offset
    case admitted =>
      have none : s.queue.records.any (Record.isGlideOf n) = false := by
        unfold glideAnswer at answer
        by_contra some
        rw [Bool.not_eq_false] at some
        rw [if_pos some] at answer
        split at answer <;> cases answer
      exact OneGlideEach.joined (s := State.append _ _)
        (OneGlideEach.admitted (rs := s.queue.records) law none _ _) (updateBacklog_joined _)
    case dropped => exact law

/-! ## Both laws -/

/-- What becomes of the part keeps the law of the markers and that of the queued GLIDEs. -/
structure MarksKept (s t : State) : Prop where
  conditions : ConditionLaw s → ConditionLaw t
  glides : OneGlideLaw s → OneGlideLaw t

theorem Made.marks {s t : State} (m : Made s t) : MarksKept s t := ⟨m.conditionLaw, m.oneGlide⟩

theorem MarksKept.trans {s t u : State} (h : MarksKept s t) (k : MarksKept t u) : MarksKept s u :=
  ⟨k.conditions ∘ h.conditions, k.glides ∘ h.glides⟩

/-- Both laws look at the strings, BACKLOG and the records alone. -/
theorem MarksKept.of_same {s t : State} (channels : t.channels = s.channels) (backlog : t.backlog = s.backlog)
    (records : t.queue.records = s.queue.records) : MarksKept s t where
  conditions law := ⟨fun n => by rw [← State.get_channels t, channels]; exact law.1 n, backlog ▸ law.2⟩
  glides law n := by rw [records]; exact law n

theorem applyGlobals_made (g : Globals) (s : State) : Made s (applyGlobals g s) := by
  have changed : Made s (changeDampMode g.dampMode s) := by
    unfold changeDampMode
    dsimp only
    split
    · exact .refl s
    · split
      · exact .of_shared (setDampMute_made ..).1 rfl rfl rfl
      · exact .of_shared (setDampMute_made ..).1 rfl rfl rfl
      · split
        · exact .shared rfl rfl rfl
        · exact .of_shared (setDampMute_made ..).1 rfl rfl rfl
  exact changed.trans (.of_shared (.compare _) rfl rfl rfl)

theorem flushVoice_made (n : Str) (s : State) : Made s (flushVoice n s) := by
  have settled (t : State) : Made t (if (t.channel n).detector.gate = .closed then enterQuiet n t
      else t.mod n (.entering .silent)) := by
    split
    · exact enterQuiet_made n t
    · exact .mod id
  unfold flushVoice
  dsimp only
  split
  · exact (endNote_made ..).trans (settled _)
  · exact settled s
  · exact settled s
  all_goals exact .refl s

theorem forceCommit_made (n : Str) (s : State) : Made s (forceCommit n s) := by
  unfold forceCommit
  dsimp only
  refine (takeCompletion_made n s).trans (Made.trans ?_ (modDetector_made ..))
  cases ((takeCompletion n s).channel n).voice.state with
  | sounding => exact (endNote_made ..).trans (enterQuiet_made ..)
  | quiet | suspect | acquiring | silent => exact enterQuiet_made ..
  | muted => exact commitProfile_made ..

theorem wakeByCommand_made (s : State) : Made s (wakeByCommand s) := by
  unfold wakeByCommand
  exact (returnToRun_made .command s).1.trans (modAll_made _ fun _ => ⟨rfl, rfl⟩)

/-- A latched marker cleared by the host leaves its pair lawful (R156). -/
theorem Markers.lawful.cleared {m : Markers} (h : m.lawful) : m.cleared.lawful := by
  unfold Markers.cleared
  split
  · exact h
  · next inactive => exact ⟨fun active => absurd active inactive, h.2⟩

theorem clearMarkers_conditionLaw (kinds : KindSet) (strings : List Str) {s : State} (law : ConditionLaw s) :
    ConditionLaw (clearMarkers kinds strings s) := by
  have named {m : Markers} (h : m.lawful) (b : Bool) : (if b then m.cleared else m).lawful := by
    split
    · exact h.cleared
    · exact h
  have cleared := forStrings_induct (P := ConditionLaw) (fun n u => u.mod n (.clearNamed kinds))
    (fun n u law => mod_conditionLaw law fun lawful => ⟨named lawful.1 _, named lawful.2 _⟩) strings s law
  exact ⟨cleared.1, named cleared.2 _⟩

theorem clearMarkers_queue (kinds : KindSet) (strings : List Str) (s : State) :
    (clearMarkers kinds strings s).queue = s.queue :=
  forStrings_induct (P := fun u => u.queue = s.queue) (fun n u => u.mod n (.clearNamed kinds))
    (fun _ _ same => same) strings s rfl

theorem takeSample_made (signals : Eight Int) (order : List Str) (s : State) :
    Made s (takeSample signals order s) := by
  have clipped (n : Str) (t : State) : Made t (clipAtSample signals n t) := by
    unfold clipAtSample
    dsimp only
    split
    · exact raiseCondition_made ..
    · exact .refl t
  have sampled : Made s (s.sampled signals) := .strings (fun n lawful => by
    rw [State.sampled_channel, Channel.sample_only]; exact lawful) rfl rfl
  exact sampled.trans (forStrings_made clipped _ _)

/-- The records that stand behind the head. -/
theorem OneGlideEach.tail {r : Record} {rs : List Record} (h : OneGlideEach (r :: rs)) : OneGlideEach rs :=
  fun n => ((List.sublist_cons_self r rs).filter _).length_le.trans (h n)

theorem transmitTake_marks (s : State) : MarksKept s (transmitTake s) := by
  unfold transmitTake
  split
  · split
    · exact .of_same rfl rfl rfl
    · next head rest _ records =>
      split
      · have compared {t : State} (h : MarksKept s t) : MarksKept s (updateBacklog t) :=
          h.trans (Made.compare t).marks
        exact compared ⟨fun law => law, fun law =>
          OneGlideEach.tail (r := head) (by rw [← records]; exact law)⟩
      · exact (Made.refl s).marks
    · exact (Made.refl s).marks
  · exact (Made.refl s).marks

/-- A reset leaves every marker clear and the queue empty (R137, R160). -/
theorem afterReset_marks {channels : Eight Channel} (clear : ∀ n, (channels.get n).MarkersLawful)
    (globals : Globals) (causes : Causes) (straps : Straps) (s : State) :
    MarksKept s (s.afterReset channels globals causes straps) :=
  ⟨fun _ => ⟨clear, ⟨nofun, nofun⟩⟩, fun _ _ => Nat.zero_le 1⟩

theorem Channel.reset_markersLawful (active staged : Profile) (pendingFlag : Bool) :
    (Channel.reset active staged pendingFlag).MarkersLawful := ⟨⟨nofun, nofun⟩, ⟨nofun, nofun⟩⟩

theorem defaulted_marks (causes : Causes) (straps : Straps) (s : State) :
    MarksKept s (s.defaulted causes straps) :=
  afterReset_marks (fun n => by rw [Eight.get_of]; exact Channel.reset_markersLawful ..) ..

/-- Every event of the part keeps the law of the markers and that of the queued GLIDEs. -/
theorem marksKept_kept : Kept MarksKept where
  refl s := (Made.refl s).marks
  trans := .trans
  idle _ _ := .of_same rfl rfl rfl
  crossing n s := (takeCrossing_made n s).marks
  estimate n s := (takeEstimate_made n s).marks
  clipEnd n s := (endClip_made n s).marks
  openActive n s := (openBecomesActive_made n s).marks
  openEnd n s := (openBecomesInactive_made n s).marks
  judgement n s := (judge_made n s).marks
  completion n s := (takeCompletion_made n s).marks
  bleed n s := (bleedStep_made n s).marks
  acquisition n s := (expireAcquisition_made n s).marks
  stall n s := (expireStall_made n s).marks
  lost n s := (expireLost_made n s).marks
  boundary n s := (takeBoundary_made n s).marks
  drop n s := (expireDrop_made n s).marks
  asserted s := (dampAsserted_made s).1.marks
  deasserted s := (dampDeasserted_made s).1.marks
  dozeEntry s _ := (enterDoze_made s).1.marks
  wakeByString order s := (wakeByString_made order s).1.marks
  wakeByCommand s _ := (wakeByCommand_made s).marks
  startEnd s := (endStart_made s).1.marks
  frameEnd damp s := (takeFrameEnd_made damp s).1.marks
  sample signals order s _ := (takeSample_made signals order s).marks
  receivedByte b stopHigh s := by
    unfold receiveByte
    dsimp only
    split
    · split <;> exact .of_same rfl rfl rfl
    · exact .of_same rfl rfl rfl
  byteTimeout s := (byteTimeout_made s).1.marks
  transmitTake := transmitTake_marks
  frameSent s := by
    unfold frameSent
    split <;> exact .of_same rfl rfl rfl
  restartReset straps s := by
    unfold restartReset
    split
    · exact afterReset_marks (fun n => by rw [Eight.get_of]; exact Channel.reset_markersLawful ..) ..
    · exact (Made.refl s).marks
  powerOn _ s := defaulted_marks _ _ s
  supplyDrop _ s := defaulted_marks _ _ s
  pinReset s := by
    have reset := defaulted_marks { s.modes.causes with pin := true } s.link.straps s
    exact reset.trans (.of_same rfl rfl rfl)
  pinReleased straps s := by
    unfold pinReleased
    split <;> exact .of_same rfl rfl rfl
  taken _ _ _ _ := .of_same rfl rfl rfl
  reply _ _ _ _ := .of_same rfl rfl rfl
  causesCleared _ := .of_same rfl rfl rfl
  flagsCleared _ := .of_same rfl rfl rfl
  staged n _ s _ _ _ := (Made.mod (s := s) (n := n) id).marks
  stagedQuiet n _ s _ _ _ := ((Made.mod (s := s) (n := n) id).trans (commitProfile_made n _)).marks
  forceCommit n s _ := (forceCommit_made n s).marks
  applyGlobals g s _ _ := (applyGlobals_made g s).marks
  clearMarkers kinds strings s _ :=
    ⟨clearMarkers_conditionLaw kinds strings, fun law n => by rw [clearMarkers_queue]; exact law n⟩
  eventGate _ _ _ := .of_same rfl rfl rfl
  flush n s _ := (flushVoice_made n s).marks
  latchReleased s _ _ _ := 
    MarksKept.trans (t := setLatch false s) (.of_same rfl rfl rfl) (setDampMute_made ..).1.marks
  locked _ _ := .of_same rfl rfl rfl
  restartDue _ _ := .of_same rfl rfl rfl

end Sys2Proof.Machine
end

section
/-! The account of the queue through every offer (R127 to R130, R136), and the order of its note records (R63). -/

namespace Sys2Proof.Machine

/-! ## Reading the note records in order (R63) -/

theorem readNotes_append (n : Str) (rs ks : List Record) (opened : Option Byte) :
    readNotes n (rs ++ ks) opened = (readNotes n rs opened).bind (readNotes n ks) := by
  induction rs generalizing opened with
  | nil => rfl
  | cons r rs ih =>
    rw [List.cons_append]
    cases r with
    | condition | notice => exact ih _
    | noteOn | noteOff | glide | pitchFix =>
      simp only [readNotes]
      split
      · split
        · exact ih _
        · rfl
      · exact ih _

/-- A record that no string's notes are read from. -/
def Record.Silent (r : Record) : Prop := ∀ n opened, readNotes n [r] opened = some opened

theorem readNotes_silent {rs : List Record} (h : ∀ r ∈ rs, r.Silent) (n : Str) (opened : Option Byte) :
    readNotes n rs opened = some opened := by
  induction rs with
  | nil => rfl
  | cons r rs ih =>
    rw [← List.singleton_append, readNotes_append, h r List.mem_cons_self]
    exact ih fun x mem => h x (List.mem_cons_of_mem _ mem)

theorem Record.silent_of_isBacklog {r : Record} (h : r.isBacklog = true) : r.Silent := by
  cases r with
  | condition => exact fun _ _ => rfl
  | _ => cases h

/-- A GLIDE with its offset replaced is read as it was. -/
theorem readNotes_mergeGlide (n m : Str) (offset : Int) (rs : List Record) (opened : Option Byte) :
    readNotes m (mergeGlide n offset rs) opened = readNotes m rs opened := by
  induction rs generalizing opened with
  | nil => rfl
  | cons r rs ih =>
    have tail := ih
    unfold mergeGlide at tail ⊢
    rw [List.map_cons]
    cases r with
    | glide k serial old =>
      dsimp only
      split <;> simp only [readNotes, tail]
    | _ => simp only [readNotes, tail]

/-- The serial of the note that the records leave open at their end: a reported voice's (R63). -/
def Voice.openNote (v : Voice) : Option Byte := if v.reported then some v.serial else none

theorem noteOrderLaw_iff (s : State) : NoteOrderLaw s ↔ ∀ n, ∃ opened,
    readNotes n s.queue.records opened = some (s.channel n).voice.openNote := Iff.rfl

/-! ## The slots held (R127) -/

theorem State.slotsHeld_congr {s t : State} (h : ∀ n, (t.channel n).voice.slots = (s.channel n).voice.slots) :
    t.slotsHeld = s.slotsHeld := by
  unfold slotsHeld
  simp only [h]

theorem State.slotsHeld_mod (s : State) (n : Str) (f : Channel → Channel) :
    (s.mod n f).slotsHeld + (s.channel n).voice.slots = s.slotsHeld + (f (s.channel n)).voice.slots := by
  cases n <;> simp only [slotsHeld, State.channel_mod, reduceCtorEq, if_true, if_false] <;> omega

theorem State.slots_le (s : State) (n : Str) : (s.channel n).voice.slots ≤ s.slotsHeld := by
  cases n <;> simp only [slotsHeld] <;> omega

/-! ## The ledger -/

/-- The laws of the queue: its account, BACKLOG, and the order of the note records (R63, R127, R136). -/
structure Ledger (s : State) : Prop where
  queue : QueueLaw s
  backlog : BacklogLaw s
  order : NoteOrderLaw s

/-- What the ledger knows of a voice stands: its flags, and its serial while it is reported. -/
structure Voice.SameTally (v w : Voice) : Prop where
  reported : w.reported = v.reported
  fix : w.fix = v.fix
  serial : v.reported = true → w.serial = v.serial

theorem Voice.SameTally.refl (v : Voice) : v.SameTally v := ⟨rfl, rfl, fun _ => rfl⟩

theorem Voice.SameTally.slots {v w : Voice} (h : v.SameTally w) : w.slots = v.slots := by
  rw [Voice.slots, Voice.slots, h.reported, h.fix]

theorem Voice.SameTally.openNote {v w : Voice} (h : v.SameTally w) : w.openNote = v.openNote := by
  unfold Voice.openNote
  rw [h.reported]
  split
  · next r => rw [h.serial r]
  · rfl

/-- The ledger looks at the strings' tallies, the queue, the BACKLOG marker and the high-water setting. -/
theorem Ledger.of_strings {s t : State} (ledger : Ledger s)
    (tally : ∀ n, (s.channel n).voice.SameTally (t.channel n).voice)
    (records : t.queue.records = s.queue.records) (reserved : t.queue.reserved = s.queue.reserved)
    (active : t.backlog.active = s.backlog.active) (water : t.globals.highWater = s.globals.highWater) :
    Ledger t := by
  have commitment : t.queue.commitment = s.queue.commitment := by
    rw [Queue.commitment, Queue.commitment, records, reserved]
  refine ⟨⟨?_, ?_⟩, ?_, fun n => ?_⟩
  · rw [commitment]; exact ledger.queue.capacity
  · rw [reserved, ledger.queue.account, State.slotsHeld_congr fun n => (tally n).slots]
  · have law := ledger.backlog
    unfold BacklogLaw State.backlogNow at *
    rw [active, water, commitment]; exact law
  · obtain ⟨opened, read⟩ := (noteOrderLaw_iff s).mp ledger.order n
    exact ⟨opened, by rw [records, read]; exact congrArg some (tally n).openNote.symm⟩

theorem Ledger.mod {s : State} {n : Str} {f : Channel → Channel} (ledger : Ledger s)
    (tally : (s.channel n).voice.SameTally (f (s.channel n)).voice) : Ledger (s.mod n f) := by
  refine ledger.of_strings (fun m => ?_) rfl rfl rfl rfl
  rw [State.channel_mod]
  split
  · next e => exact e ▸ tally
  · exact .refl _

theorem Ledger.modAll {s : State} {f : Channel → Channel} (ledger : Ledger s)
    (tally : ∀ c : Channel, c.voice.SameTally (f c).voice) : Ledger (s.modAll f) :=
  ledger.of_strings (fun n => by rw [State.channel_modAll]; exact tally _) rfl rfl rfl rfl

theorem Ledger.refuse {s : State} (ledger : Ledger s) : Ledger s.refuse :=
  ledger.of_strings (fun _ => .refl _) rfl rfl rfl rfl

/-- Records of the same number that are read alike keep the ledger. -/
theorem Ledger.reread {s : State} (ledger : Ledger s) {rs : List Record}
    (length : rs.length = s.queue.records.length)
    (read : ∀ n opened, readNotes n rs opened = readNotes n s.queue.records opened) :
    Ledger { s with queue := { s.queue with records := rs } } := by
  have commitment : ({ s.queue with records := rs } : Queue).commitment = s.queue.commitment :=
    congrArg (· + s.queue.reserved) length
  refine ⟨⟨commitment.trans_le ledger.queue.capacity, ledger.queue.account⟩, ?_, fun n => ?_⟩
  · have law := ledger.backlog
    unfold BacklogLaw State.backlogNow at *
    rw [commitment]; exact law
  · obtain ⟨opened, was⟩ := (noteOrderLaw_iff s).mp ledger.order n
    exact ⟨opened, (read n opened).trans was⟩

/-! ## The comparison with the high-water setting (R136) -/

theorem activateBacklog_capacity {s : State} (h : s.queue.commitment ≤ queueCapacity) :
    (activateBacklog s).queue.commitment ≤ queueCapacity := by
  unfold activateBacklog
  dsimp only
  split
  · exact h
  · split
    · next room =>
      have room : s.queue.commitment + 1 ≤ queueCapacity := of_decide_eq_true room
      exact (Queue.commitment_push ..).trans_le room
    · exact h

theorem updateBacklog_capacity {s : State} (h : s.queue.commitment ≤ queueCapacity) :
    (updateBacklog s).queue.commitment ≤ queueCapacity := by
  have deactivated : (deactivateBacklog s).queue.commitment ≤ queueCapacity := by
    unfold deactivateBacklog
    dsimp only
    split
    · exact h
    · split
      · next room =>
        have room : s.queue.commitment + 1 ≤ queueCapacity := of_decide_eq_true room
        split
        · exact activateBacklog_capacity ((Queue.commitment_push ..).trans_le room)
        · exact (Queue.commitment_push ..).trans_le room
      · exact h
  unfold updateBacklog
  split <;> split
  · exact h
  · exact activateBacklog_capacity h
  · exact deactivated
  · exact h

/-- An event that leaves the account and the order right is compared, and the ledger holds. -/
theorem Ledger.compared {s : State} (queue : QueueLaw s) (order : NoteOrderLaw s) :
    Ledger (updateBacklog s) := by
  obtain ⟨reserved, -, -, backlog⟩ := updateBacklog_account s
  obtain ⟨⟨extra, records, reports⟩, -⟩ := updateBacklog_joined s
  refine ⟨⟨updateBacklog_capacity queue.capacity, ?_⟩, backlog, fun n => ?_⟩
  · rw [reserved, queue.account]
    exact (State.slotsHeld_congr fun n => by rw [updateBacklog_channel]).symm
  · obtain ⟨opened, read⟩ := (noteOrderLaw_iff s).mp order n
    refine ⟨opened, ?_⟩
    rw [records, List.append_nil, readNotes_append, read, updateBacklog_channel]
    exact readNotes_silent (fun r mem => Record.silent_of_isBacklog (List.all_eq_true.mp reports r mem)) ..

/-- Records posted for string `n` with a change of its voice, and then compared: the slots the voice gains or
gives back are reserved or returned, and the records carry its notes on in order. -/
theorem Ledger.posted {s u : State} (ledger : Ledger s) {n : Str} {g : Voice → Voice} {rs : List Record}
    (channels : u.channels = (s.mod n (.modVoice g)).channels)
    (records : u.queue.records = s.queue.records ++ rs)
    (account : u.queue.reserved + (s.channel n).voice.slots
      = s.queue.reserved + (g (s.channel n).voice).slots)
    (capacity : s.queue.records.length + rs.length + u.queue.reserved ≤ queueCapacity)
    (others : ∀ m, m ≠ n → ∀ opened, readNotes m rs opened = some opened)
    (own : readNotes n rs (s.channel n).voice.openNote = some (g (s.channel n).voice).openNote) :
    Ledger (updateBacklog u) := by
  have channel (m : Str) : u.channel m = (s.mod n (.modVoice g)).channel m := by
    rw [← State.get_channels, channels]; rfl
  refine .compared ⟨?_, ?_⟩ fun m => ?_
  · rw [Queue.commitment, records, List.length_append]; exact capacity
  · have held := s.slotsHeld_mod n (.modVoice g)
    have reserved := ledger.queue.account
    have same : u.slotsHeld = (s.mod n (.modVoice g)).slotsHeld :=
      State.slotsHeld_congr fun m => by rw [channel]
    have gained : ((s.channel n).modVoice g).voice.slots = (g (s.channel n).voice).slots := rfl
    omega
  · obtain ⟨opened, read⟩ := (noteOrderLaw_iff s).mp ledger.order m
    refine ⟨opened, ?_⟩
    rw [records, readNotes_append, read, channel, State.channel_mod]
    split
    · next e => rw [e]; exact own
    · next e => exact others m e _

/-! ## Offers -/

/-- A CONDITION or a NOTICE offered keeps the ledger (R131). -/
theorem Ledger.offerPlain {s : State} (ledger : Ledger s) {r : Record} (silent : r.Silent) :
    Ledger (offerPlain r s) := by
  unfold Sys2Proof.Machine.offerPlain
  split
  · next room =>
    have room : s.queue.commitment + 1 ≤ queueCapacity := of_decide_eq_true room
    refine .compared ⟨(Queue.commitment_push ..).trans_le room, ledger.queue.account⟩ fun n => ?_
    obtain ⟨opened, read⟩ := (noteOrderLaw_iff s).mp ledger.order n
    exact ⟨opened, by rw [State.queue_append, Queue.push, readNotes_append, read]; exact silent n _⟩
  · exact ledger.refuse

/-- A NOTE-OFF offered gives the voice's slots back and closes its note (R63, R129). -/
theorem Ledger.offerNoteOff {s : State} (ledger : Ledger s) (n : Str) (reason : OffReason) :
    Ledger (offerNoteOff n reason s) := by
  unfold Sys2Proof.Machine.offerNoteOff
  dsimp only
  split
  · next reported =>
    have slots : (s.channel n).voice.slots = if (s.channel n).voice.fix then 2 else 1 := by
      rw [Voice.slots, reported]
      cases (s.channel n).voice.fix <;> rfl
    have one : 1 ≤ (s.channel n).voice.slots := by rw [slots]; split <;> decide
    have held := s.slots_le n
    have reserved := ledger.queue.account
    have capacity := ledger.queue.capacity
    unfold Queue.commitment at capacity
    rw [← slots]
    refine ledger.posted (n := n) (g := fun v => { v with reported := false, fix := false })
      (rs := [.noteOff n (s.channel n).voice.serial reason]) rfl rfl ?_ ?_ (fun m other opened => ?_) ?_
    · change s.queue.reserved - (s.channel n).voice.slots + (s.channel n).voice.slots
        = s.queue.reserved + 0
      omega
    · change s.queue.records.length + 1 + (s.queue.reserved - (s.channel n).voice.slots) ≤ queueCapacity
      omega
    · simp [readNotes, other.symm]
    · simp [readNotes, Voice.openNote, reported]
  · exact ledger

/-- A PITCH-FIX offered uses the fix reservation (R63, R129). -/
theorem Ledger.offerPitchFix {s : State} (ledger : Ledger s) (n : Str) (base : Nat) (offset : Int) :
    Ledger (offerPitchFix n base offset s) := by
  unfold Sys2Proof.Machine.offerPitchFix
  dsimp only
  split
  · next both =>
    obtain ⟨reported, fix⟩ := Bool.and_eq_true_iff.mp both
    have slots : (s.channel n).voice.slots = 2 := by rw [Voice.slots, reported, fix]; rfl
    have held := s.slots_le n
    have reserved := ledger.queue.account
    have capacity := ledger.queue.capacity
    unfold Queue.commitment at capacity
    refine ledger.posted (n := n) (g := fun v => { v with fix := false })
      (rs := [.pitchFix n (s.channel n).voice.serial base offset]) rfl rfl ?_ ?_ (fun m other opened => ?_) ?_
    · rw [slots, Voice.slots, reported]
      change s.queue.reserved - 1 + 2 = s.queue.reserved + 1
      omega
    · change s.queue.records.length + 1 + (s.queue.reserved - 1) ≤ queueCapacity
      omega
    · simp [readNotes, other.symm]
    · simp [readNotes, Voice.openNote, reported]
  · exact ledger

/-- A fix reservation released gives its slot back (R73, R129). -/
theorem Ledger.releaseFix {s : State} (ledger : Ledger s) (n : Str) : Ledger (releaseFix n s) := by
  unfold Sys2Proof.Machine.releaseFix
  split
  · next fix =>
    have slots : (s.channel n).voice.slots = (s.channel n).voice.reported.toNat + 1 := by
      rw [Voice.slots, fix]; rfl
    have held := s.slots_le n
    have reserved := ledger.queue.account
    have capacity := ledger.queue.capacity
    unfold Queue.commitment at capacity
    refine ledger.posted (n := n) (g := fun v => { v with fix := false }) (rs := []) rfl
      (List.append_nil _).symm ?_ ?_ (fun m other opened => rfl) rfl
    · rw [slots]
      change s.queue.reserved - 1 + _ = s.queue.reserved + ((s.channel n).voice.reported.toNat + 0)
      omega
    · change s.queue.records.length + 0 + (s.queue.reserved - 1) ≤ queueCapacity
      omega
  · exact ledger

/-- A NOTE-ON offered by an unreported voice reserves its slots and opens its note (R63, R128). -/
theorem Ledger.offerNoteOn {s : State} (ledger : Ledger s) {n : Str}
    (unreported : (s.channel n).voice.reported = false) (unfixed : (s.channel n).voice.fix = false)
    (base velocity : Nat) (offset : Int) (flag : NoteFlag) :
    Ledger (offerNoteOn n base velocity offset flag s) := by
  cases room : s.hasRoom flag.room
  · rw [offerNoteOn_refused room]
    exact (ledger.mod ⟨rfl, rfl, fun r => absurd (unreported.symm.trans r) nofun⟩).refuse
  · have none : (s.channel n).voice.slots = 0 := by rw [Voice.slots, unreported, unfixed]; rfl
    have fits : s.queue.commitment + flag.room ≤ queueCapacity := of_decide_eq_true room
    unfold Queue.commitment at fits
    have two : 2 ≤ flag.room := by unfold NoteFlag.room; split <;> decide
    have admitted : Sys2Proof.Machine.offerNoteOn n base velocity offset flag s = updateBacklog
        (((s.mod n (.modVoice fun v => { v with
            serial := (s.channel n).voice.serial + 1, reported := true, fix := flag.mayNeedFix })).reserve
          (flag.room - 1)).append (.noteOn n ((s.channel n).voice.serial + 1) base velocity offset flag)) := by
      have h : (s.mod n (.modVoice fun v => { v with serial := (s.channel n).voice.serial + 1 })).hasRoom
          (if flag.mayNeedFix then 3 else 2) = true := room
      simp only [Sys2Proof.Machine.offerNoteOn, h, if_true, State.mod_mod]
      rfl
    rw [admitted]
    refine ledger.posted (n := n) (g := fun v => { v with
        serial := (s.channel n).voice.serial + 1, reported := true, fix := flag.mayNeedFix })
      (rs := [.noteOn n ((s.channel n).voice.serial + 1) base velocity offset flag]) rfl rfl ?_ ?_
      (fun m other opened => ?_) ?_
    · rw [none]
      change s.queue.reserved + (flag.room - 1) + 0 = s.queue.reserved + (1 + flag.mayNeedFix.toNat)
      unfold NoteFlag.room
      cases flag.mayNeedFix <;> rfl
    · change s.queue.records.length + 1 + (s.queue.reserved + (flag.room - 1)) ≤ queueCapacity
      omega
    · simp [readNotes, other.symm]
    · simp [readNotes, Voice.openNote, unreported]

/-- A GLIDE offered by a reported voice stands within its note (R63, R130). -/
theorem Ledger.offerGlide {s : State} (ledger : Ledger s) {n : Str}
    (reported : (s.channel n).voice.reported = true) (offset : Int) : Ledger (offerGlide n offset s) := by
  have told : Ledger (s.mod n fun c =>
      { c with reporter := { c.reporter with lastReported := some offset } }) := ledger.mod (.refl _)
  unfold Sys2Proof.Machine.offerGlide
  cases answer : glideAnswer n s
  case merged =>
    exact told.reread (by simp [mergeGlide]) fun m opened => readNotes_mergeGlide ..
  case admitted =>
    have room : s.queue.commitment + 1 ≤ queueCapacity := by
      unfold glideAnswer at answer
      split at answer
      · split at answer <;> cases answer
      · split at answer
        · next room => exact of_decide_eq_true room
        · cases answer
    unfold Queue.commitment at room
    refine told.posted (n := n) (g := id) (rs := [.glide n (s.channel n).voice.serial offset]) ?_ rfl rfl ?_
      (fun m other opened => ?_) ?_
    · exact (congrArg State.channels (State.mod_eq_self (f := .modVoice id) rfl)).symm
    · change s.queue.records.length + 1 + s.queue.reserved ≤ queueCapacity
      omega
    · simp [readNotes, other.symm]
    · simp [readNotes, Voice.openNote, reported]
  case dropped => exact ledger.refuse

end Sys2Proof.Machine
end

section
/-! A string that is sound in its mode: what each change of its voice, its line and its settings leaves of the
forms that chapter 4 gives the voice's context, and of the laws of the gate, the line and the reporter (R43, R61,
R110, R114, R115, R118). -/

namespace Sys2Proof.Machine

/-! ## A sound string -/

/-- A string is sound in a mode, `damped` saying whether the damp mute is in force. -/
structure Channel.Sound (mode : Mode) (damped : Bool) (c : Channel) : Prop where
  lawful : c.Lawful
  damp : c.voice.damp = (damped && c.active.enabled)
  pending : mode ≠ .start → c.pendingFlag = true → c.voice.state ≠ .quiet
  doze : mode = .doze → c.DozeForm

/-- An enabled string is sound in RUN. -/
structure Channel.Playing (damped : Bool) (c : Channel) : Prop where
  enabled : c.active.enabled = true
  voice : c.voice.Lawful
  gate : c.gateLawful
  line : c.lineLawful
  reporter : c.ReporterLaw
  bleed : c.bleed.timer.isSome = true ↔ c.voice.state = .suspect
  openMute : c.voice.openCause = c.openMarks.active
  damp : c.voice.damp = damped
  pending : c.pendingFlag = true → c.voice.state ≠ .quiet

theorem Channel.Playing.sound {damped : Bool} {c : Channel} (p : c.Playing damped) : c.Sound .run damped where
  lawful := ⟨p.voice, p.gate, p.line, p.reporter, p.bleed, p.openMute,
    fun disabled => absurd (p.enabled.symm.trans disabled) nofun⟩
  damp := by rw [p.enabled, Bool.and_true, p.damp]
  pending _ := p.pending
  doze := nofun

theorem Channel.Sound.playing {damped : Bool} {c : Channel} (s : c.Sound .run damped)
    (enabled : c.active.enabled = true) : c.Playing damped :=
  ⟨enabled, s.lawful.voice, s.lawful.gate, s.lawful.line, s.lawful.reporter, s.lawful.bleed, s.lawful.openMute,
    by rw [s.damp, enabled, Bool.and_true], s.pending nofun⟩

/-- A string on which nothing is owed to its voice: its voice QUIET or MUTED, its frame judged, and no crossing,
estimate or velocity on its way. -/
structure Channel.AtRest (c : Channel) : Prop where
  voice : c.voice.state = .quiet ∨ c.voice.state = .muted
  judged : c.detector.judgementDue = false
  completion : c.detector.completion = none
  handed : c.capture.handed = none
  delivered : c.capture.delivered = none

theorem Channel.DisabledLaw.atRest {c : Channel} (d : c.DisabledLaw) : c.AtRest :=
  ⟨.inl d.voice.1, d.detector.2.1, d.detector.2.2, d.capture.2.1, d.capture.2.2⟩

theorem Channel.DozeForm.atRest {c : Channel} (d : c.DozeForm) : c.AtRest :=
  ⟨d.voice, d.detector.2.1, d.detector.2.2, d.capture.2.1, d.capture.2.2⟩

/-- Outside START a sound string is playing or at rest. -/
theorem Channel.Sound.playing_or_atRest {mode : Mode} {damped : Bool} {c : Channel} (s : c.Sound mode damped)
    (started : mode ≠ .start) : mode = .run ∧ c.Playing damped ∨ c.AtRest := by
  cases enabled : c.active.enabled
  · exact .inr (s.lawful.disabled enabled).atRest
  · cases mode with
    | start => exact absurd rfl started
    | run => exact .inl ⟨rfl, s.playing enabled⟩
    | doze => exact .inr (s.doze rfl).atRest

/-! ## Voices -/

/-- A voice with its note ended toward the host is as lawful as before (R63). -/
theorem Voice.Lawful.unreport {v : Voice} (l : v.Lawful) :
    ({ v with reported := false, fix := false } : Voice).Lawful :=
  { l with
    reported := nofun
    fix := nofun
    bare := fun calm => congrArg (fun w : Voice => { w with reported := false, fix := false }) (l.bare calm) }

/-- A fix reservation given up leaves the voice lawful (R73, R129). -/
theorem Voice.Lawful.unfix {v : Voice} (l : v.Lawful) : ({ v with fix := false } : Voice).Lawful :=
  { l with
    fix := nofun
    bare := fun calm => congrArg (fun w : Voice => { w with fix := false }) (l.bare calm) }

/-- The forms of the states that hold no note and no attack (section 4.1). -/
theorem Voice.entering_lawful {v : Voice} {st : VoiceState} (calm : st = .quiet ∨ st = .silent ∨ st = .muted)
    (unreported : v.reported = false) (unfixed : v.fix = false) (cause : v.hasCause = true ↔ st = .muted) :
    (v.entering st).Lawful := by
  refine ⟨?_, cause, ?_, ?_, ?_, ?_, ?_, ?_, ?_, ?_, ?_, ?_, ?_, ?_, ?_, fun _ => rfl⟩ <;>
    rcases calm with rfl | rfl | rfl <;>
    simp [Voice.entering, Voice.reset, unreported, unfixed]

/-- The forms of the states of an attack (section 4.1). -/
theorem Voice.attacked_lawful {v : Voice} {st : VoiceState} {velocity : Option Nat} {carried : Nat}
    {acqTimer : Option Nat} (attack : st = .suspect ∨ st = .acquiring) (unreported : v.reported = false)
    (unfixed : v.fix = false) (causeless : v.hasCause = false)
    (timer : acqTimer.isSome = true ↔ st = .acquiring) :
    ({ v.entering st with velocity := velocity, carried := carried, acqTimer := acqTimer } : Voice).Lawful := by
  have cause : v.damp = false ∧ v.openCause = false := by simpa [Voice.hasCause] using causeless
  rcases attack with rfl | rfl <;> constructor <;>
    simp [Voice.entering, Voice.reset, Voice.hasCause, unreported, unfixed, cause] <;> simpa using timer

/-- The form of a note (section 4.1). -/
theorem Voice.begun_lawful {v : Voice} {base velocity : Nat} {pitch : Option Nat} {kind : StartKind}
    {fresh reported fix : Bool} {serial : Byte} (causeless : v.hasCause = false)
    (fixed : fix = true → reported = true) (pitched : pitch.isSome = true ↔ kind ≠ .unpitched) :
    ({ Voice.reset with
      state := .sounding, damp := v.damp, openCause := v.openCause, serial := serial, baseNote := some base
      currentPitch := pitch, startKind := some kind, velocity := some velocity, stallTimer := some 0
      stallFresh := fresh, reported := reported, fix := fix } : Voice).Lawful := by
  have cause : v.damp = false ∧ v.openCause = false := by simpa [Voice.hasCause] using causeless
  constructor <;> simp [Voice.reset, Voice.hasCause, cause, pitched]
  exact fixed

theorem Voice.Lawful.causeless {v : Voice} (l : v.Lawful) (h : v.state ≠ .muted) : v.hasCause = false := by
  rw [← Bool.not_eq_true, l.muted]
  exact h

/-- An attack not yet completed may take its velocity, or give it up (R64, R72). -/
theorem Voice.Lawful.setVelocity {v : Voice} (l : v.Lawful) (attack : v.state = .suspect ∨ v.state = .acquiring)
    (velocity : Option Nat) (carried : Nat) :
    ({ v with velocity := velocity, carried := carried } : Voice).Lawful :=
  { l with
    velocity := fun h => by rcases attack with a | a <;> exact absurd (a.symm.trans h) nofun
    bare := fun h => by rcases attack with a | a <;> simp [a] at h }

theorem Voice.Lawful.setHeld {v : Voice} (l : v.Lawful) (suspect : v.state = .suspect) (e : Estimate) :
    ({ v with held := some e } : Voice).Lawful :=
  { l with
    held := fun _ => suspect
    bare := fun h => by simp [suspect] at h }

/-- A pitch learned in ACQUIRING stands under the start kind it brings (R69, R71). -/
theorem Voice.Lawful.learn {v : Voice} (l : v.Lawful) (acquiring : v.state = .acquiring) (policy : StartPolicy)
    (e : Estimate) : (v.learn policy e).Lawful := by
  have learned (kind : StartKind) (known : kind = .normal ∨ kind = .provisional) :
      ({ v with currentPitch := some e.pitch, startKind := some kind, acqExpired := false } : Voice).Lawful :=
    { l with
      startKind := fun _ => rfl
      learned := fun _ => by simpa using known
      pitched := fun h => absurd (acquiring.symm.trans h) nofun
      acqExpired := nofun
      bare := fun h => by simp [acquiring] at h }
  unfold Voice.learn
  split
  · exact learned .normal (.inl rfl)
  · split
    · exact learned .normal (.inl rfl)
    · exact learned .provisional (.inr rfl)
  · exact l

/-- The acquisition limit reached with no pitch known leaves an UNPITCHED start to come (R71). -/
theorem Voice.Lawful.expire {v : Voice} (l : v.Lawful) (acquiring : v.state = .acquiring)
    (unknown : v.currentPitch = none) :
    ({ v with acqExpired := true, startKind := some .unpitched } : Voice).Lawful :=
  { l with
    startKind := fun _ => rfl
    learned := fun _ => by simp [unknown]
    pitched := fun h => absurd (acquiring.symm.trans h) nofun
    acqExpired := fun _ => acquiring
    bare := fun h => by simp [acquiring] at h }

/-- LOST set with its timer (R82). -/
theorem Voice.Lawful.lose {v : Voice} (l : v.Lawful) (sounding : v.state = .sounding) :
    ({ v with lost := true, lostTimer := some 0 } : Voice).Lawful :=
  { l with
    lost := fun _ => sounding
    lostTimer := rfl
    bare := fun h => by simp [sounding] at h }

theorem Voice.Lawful.confirmPitch {v : Voice} (l : v.Lawful) (sounding : v.state = .sounding) (fresh : Bool) :
    (v.confirmPitch fresh).Lawful :=
  { l with
    stallTimer := by simp [sounding, Voice.confirmPitch]
    lost := nofun
    lostTimer := rfl
    bare := fun h => by simp [sounding, Voice.confirmPitch] at h }

theorem Voice.Lawful.setCandidate {v : Voice} (l : v.Lawful) (sounding : v.state = .sounding)
    (x : Option Candidate) : ({ v with candidate := x } : Voice).Lawful :=
  { l with
    candidate := fun _ => sounding
    bare := fun h => by simp [sounding] at h }

/-- A NORMAL note's pitch moves (R74 to R77). -/
theorem Voice.Lawful.setPitch {v : Voice} (l : v.Lawful) (sounding : v.state = .sounding)
    (normal : v.startKind = some .normal) (pitch : Nat) :
    ({ v with currentPitch := some pitch, candidate := none } : Voice).Lawful :=
  { l with
    learned := fun h => absurd (sounding.symm.trans h) nofun
    pitched := fun _ => by simp [normal]
    candidate := nofun
    bare := fun h => by simp [sounding] at h }

/-- A start settled is a NORMAL note of its pitch (R73). -/
theorem Voice.Lawful.settle {v : Voice} (l : v.Lawful) (sounding : v.state = .sounding) (base pitch : Nat) :
    ({ v with baseNote := some base, currentPitch := some pitch, startKind := some .normal } : Voice).Lawful :=
  { l with
    note := by simp [sounding]
    startKind := fun _ => rfl
    learned := fun h => absurd (sounding.symm.trans h) nofun
    pitched := fun _ => by simp
    bare := fun h => by simp [sounding] at h }

/-! ## Strings -/

/-- The voice of a playing string changed within its state and its kind of start. -/
theorem Channel.Playing.modVoice {damped : Bool} {c : Channel} (p : c.Playing damped) {g : Voice → Voice}
    (lawful : (g c.voice).Lawful) (state : (g c.voice).state = c.voice.state)
    (damp : (g c.voice).damp = c.voice.damp) (openCause : (g c.voice).openCause = c.voice.openCause)
    (kind : c.voice.state = .sounding →
      ((g c.voice).startKind ≠ some .unpitched ↔ c.voice.startKind ≠ some .unpitched)) :
    (c.modVoice g).Playing damped where
  enabled := p.enabled
  voice := lawful
  gate := by simpa only [gateLawful, Channel.modVoice, state] using p.gate
  line := by simpa only [lineLawful, Channel.modVoice, state] using p.line
  reporter :=
    { output := by
        have output := p.reporter.output
        rw [Channel.modVoice]
        dsimp only
        rw [state, output]
        exact and_congr_right fun h => (kind h).symm
      lastReported := by simpa only [Channel.modVoice, state] using p.reporter.lastReported
      schedule := by simpa only [Channel.modVoice, state] using p.reporter.schedule }
  bleed := by simpa only [Channel.modVoice, state] using p.bleed
  openMute := openCause.trans p.openMute
  damp := damp.trans p.damp
  pending := by simpa only [Channel.modVoice, state] using p.pending

/-- The reporter changed, its items present as before. -/
theorem Channel.ReporterLaw.congr {c : Channel} (l : c.ReporterLaw) {r : Reporter}
    (output : r.output.isSome = c.reporter.output.isSome)
    (lastReported : r.lastReported.isSome = c.reporter.lastReported.isSome)
    (schedule : r.schedule.isSome = c.reporter.schedule.isSome) :
    ({ c with reporter := r } : Channel).ReporterLaw :=
  ⟨by rw [output]; exact l.output, by rw [lastReported]; exact l.lastReported,
    by rw [schedule]; exact l.schedule⟩

theorem Channel.Sound.setReporter {mode : Mode} {damped : Bool} {c : Channel} (s : c.Sound mode damped)
    {r : Reporter} (reporter : ({ c with reporter := r } : Channel).ReporterLaw) :
    ({ c with reporter := r } : Channel).Sound mode damped where
  lawful := ⟨s.lawful.voice, s.lawful.gate, s.lawful.line, reporter, s.lawful.bleed, s.lawful.openMute,
    fun disabled =>
      let d := s.lawful.disabled disabled
      ⟨d.voice, d.detector, d.capture, d.counts, d.crossing, d.markers, d.line⟩⟩
  damp := s.damp
  pending := s.pending
  doze h :=
    let d := s.doze h
    ⟨d.voice, d.detector, d.capture, d.crossing, d.line⟩

/-- The line lowered with a drop is lawful in every state of the voice (R119). -/
theorem Channel.Playing.lower {damped : Bool} {c : Channel} (p : c.Playing damped) (fresh : Bool) :
    ({ c with gateLine := { c.gateLine with
      high := false, drop := some 0, checkDue := false, fresh := fresh } } : Channel).Playing damped :=
  { p with
    line := (Bool.and_false _).symm
    reporter := ⟨p.reporter.output, p.reporter.lastReported, p.reporter.schedule⟩ }

/-- A string whose note is not under way has its line LOW (R118). -/
theorem Channel.lineLawful.low {c : Channel} (l : c.lineLawful) (h : c.voice.state ≠ .sounding) :
    c.gateLine.high = false := by
  rw [l, beq_eq_false_iff_ne.mpr h, Bool.false_and]

/-- A string whose voice enters a state with no note and no attack is lawful, if its line is LOW and its gate
agrees (R43, R61, R65, R83, R85). -/
theorem Channel.entering_lawful {c : Channel} {st : VoiceState} (enabled : c.active.enabled = true)
    (calm : st = .quiet ∨ st = .silent ∨ st = .muted) (unreported : c.voice.reported = false)
    (unfixed : c.voice.fix = false) (low : c.gateLine.high = false)
    (cause : c.voice.hasCause = true ↔ st = .muted) (quiet : st = .quiet → c.detector.gate = .closed)
    (silent : st = .silent → c.detector.gate ≠ .closed) (openMute : c.voice.openCause = c.openMarks.active) :
    (c.entering st).Lawful where
  voice := Voice.entering_lawful calm unreported unfixed cause
  gate := ⟨quiet, fun notQuiet notMuted =>
    silent (calm.resolve_left notQuiet |>.resolve_right notMuted)⟩
  line := by
    have notSounding : st ≠ .sounding := by rcases calm with rfl | rfl | rfl <;> nofun
    change c.gateLine.high = (st == .sounding && c.gateLine.drop.isNone)
    rw [low, beq_eq_false_iff_ne.mpr notSounding, Bool.false_and]
  reporter := by
    have notSounding : st ≠ .sounding := by rcases calm with rfl | rfl | rfl <;> nofun
    constructor <;> simp [entering, Reporter.absent, Voice.entering, notSounding]
  bleed := by
    have notSuspect : st ≠ .suspect := by rcases calm with rfl | rfl | rfl <;> nofun
    simp [entering, Bleed.absent, Voice.entering, notSuspect]
  openMute := openMute
  disabled := fun disabled => absurd (enabled.symm.trans disabled) nofun

/-- A playing string whose voice becomes SILENT. -/
theorem Channel.Playing.silence {damped : Bool} {c : Channel} (p : c.Playing damped)
    (unreported : c.voice.reported = false) (low : c.gateLine.high = false) (causeless : c.voice.hasCause = false)
    (gate : c.detector.gate ≠ .closed) : (c.entering .silent).Playing damped :=
  let lawful := Channel.entering_lawful p.enabled (.inr (.inl rfl)) unreported (p.voice.unfixed unreported) low
    ⟨fun h => absurd (causeless.symm.trans h) nofun, nofun⟩ nofun (fun _ => gate) p.openMute
  ⟨p.enabled, lawful.voice, lawful.gate, lawful.line, lawful.reporter, lawful.bleed, lawful.openMute, p.damp,
    fun _ => nofun⟩

/-- A string whose voice takes an attack is playing: the gate is open, and the test's result names the state
(R43, R65, R102). -/
theorem Channel.Playing.attacked {damped : Bool} {c : Channel} (enabled : c.active.enabled = true)
    (unreported : c.voice.reported = false) (unfixed : c.voice.fix = false) (low : c.gateLine.high = false)
    (causeless : c.voice.hasCause = false) (gate : c.detector.gate ≠ .closed)
    (openMute : c.voice.openCause = c.openMarks.active) (damp : c.voice.damp = damped) (pass : Bool)
    (velocity : Option Nat) (carried : Nat) :
    ((if pass then Channel.acquiring velocity carried else Channel.suspecting velocity carried) c).Playing
      damped := by
  cases pass
  · exact
      { enabled := enabled
        voice := Voice.attacked_lawful (acqTimer := none) (.inl rfl) unreported unfixed causeless (by simp)
        gate := ⟨nofun, fun _ _ => gate⟩
        line := low
        reporter := ⟨by simp [suspecting, entering, Reporter.absent, Voice.entering],
          by simp [suspecting, entering, Reporter.absent, Voice.entering],
          by simp [suspecting, entering, Reporter.absent, Voice.entering]⟩
        bleed := by simp [suspecting, entering, Voice.entering]
        openMute := openMute
        damp := damp
        pending := fun _ => nofun }
  · exact
      { enabled := enabled
        voice := Voice.attacked_lawful (.inr rfl) unreported unfixed causeless (by simp)
        gate := ⟨nofun, fun _ _ => gate⟩
        line := low
        reporter := ⟨by simp [acquiring, entering, Reporter.absent, Voice.entering],
          by simp [acquiring, entering, Reporter.absent, Voice.entering],
          by simp [acquiring, entering, Reporter.absent, Voice.entering]⟩
        bleed := by simp [acquiring, entering, Bleed.absent, Voice.entering]
        openMute := openMute
        damp := damp
        pending := fun _ => nofun }

/-! ## Commits (R145) -/

/-- The lane of a commit that leaves the string disabled, or enables it, starts afresh (R9, R16). -/
theorem Lane.commit_cleared {old new : Profile} (h : (new.enabled && old.enabled) = false) (l : Lane) :
    (l.commit old new).clipQuiet = 0 ∧ (l.commit old new).openHold = 0 ∧ (l.commit old new).openRelease = 0 := by
  simp [commit, h]

/-- A lane whose crossing path is clear has it clear after a commit. -/
theorem Lane.commit_crossing {old new : Profile} {l : Lane}
    (h : (new.enabled && old.enabled) = false ∨ l = l.clearCrossing) :
    l.commit old new = (l.commit old new).clearCrossing := by
  unfold commit
  dsimp only
  split
  · next both =>
    rcases h with h | h
    · exact absurd (h.symm.trans both) nofun
    · rw [h]; rfl
  · rfl

theorem Detector.commit_gate (new : Profile) (d : Detector) : (d.commit new).gate = d.gate := by
  unfold commit
  split <;> rfl

theorem Detector.commit_completion (new : Profile) (d : Detector) : (d.commit new).completion = none := by
  unfold commit
  split <;> rfl

theorem Detector.commit_judged (new : Profile) {d : Detector} (h : d.judgementDue = false) :
    (d.commit new).judgementDue = false := by
  unfold commit
  split
  · exact h
  · rfl

/-- What a commit leaves of a capture unit on which nothing is on its way (R37). -/
theorem Capture.commit_idle (new : Profile) {u : Capture} (handed : u.handed = none)
    (delivered : u.delivered = none) :
    (u.commit new).ring = [] ∧ (u.commit new).handed = none ∧ (u.commit new).delivered = none := by
  unfold commit
  split
  · exact ⟨rfl, handed, delivered⟩
  · exact ⟨rfl, rfl, rfl⟩

/-- A commit that disables the string leaves it as R9, R58, R93, R122 and R159 say. -/
theorem Channel.commit_disabled {c : Channel} (disables : c.staged.enabled = false)
    (unreported : c.voice.reported = false) (unfixed : c.voice.fix = false)
    (closed : c.detector.gate = .closed) (mode : Mode) (damped : Bool) :
    (c.commit damped).Sound mode damped := by
  have committed : c.commit damped = { ({ c with
        active := c.staged, pendingFlag := false, lane := c.lane.commit c.active c.staged
        capture := .reset c.staged
        detector := { c.detector.quieted with rearmWait := false, judgementDue := false } } : Channel).entering
          .quiet with
      voice := { c.voice.entering .quiet with damp := false, openCause := false }
      gateLine := c.gateLine.doze, clip := .clear, openMarks := .clear } := by
    simp [commit, disables, Capture.commit, Detector.commit, entering]
  have cleared : (c.staged.enabled && c.active.enabled) = false := by rw [disables]; rfl
  have voice : ({ c.voice.entering .quiet with damp := false, openCause := false } : Voice).Lawful :=
    Voice.entering_lawful (v := { c.voice with damp := false, openCause := false }) (.inl rfl) unreported unfixed
      ⟨nofun, nofun⟩
  rw [committed]
  refine ⟨⟨voice, ⟨fun _ => closed, fun h => absurd rfl h⟩, rfl, ⟨?_, ?_, ?_⟩, ?_, rfl, fun _ => ?_⟩, ?_, ?_, ?_⟩
  · simp [entering, Reporter.absent, Voice.entering]
  · simp [entering, Reporter.absent, Voice.entering]
  · simp [entering, Reporter.absent, Voice.entering]
  · simp [entering, Bleed.absent, Voice.entering]
  · exact ⟨⟨rfl, rfl⟩, ⟨rfl, rfl, rfl⟩, ⟨rfl, rfl, rfl⟩, Lane.commit_cleared cleared _,
      Lane.commit_crossing (.inl cleared), ⟨rfl, rfl⟩, ⟨rfl, rfl⟩⟩
  · exact ((congrArg (damped && ·) disables).trans (Bool.and_false _)).symm
  · exact fun _ => nofun
  · exact fun _ => ⟨.inl rfl, ⟨closed, rfl, rfl⟩, ⟨rfl, rfl, rfl⟩, Lane.commit_crossing (.inl cleared),
      ⟨rfl, rfl⟩⟩

/-- A commit of a string whose voice is QUIET or MUTED leaves it sound; one that disables it finds the gate
CLOSED (R56, R93, R144, R145). -/
theorem Channel.commit_sound {c : Channel} {mode : Mode} {damped : Bool} (lawful : c.Lawful)
    (damp : c.voice.damp = (damped && c.active.enabled)) (doze : mode = .doze → c.DozeForm)
    (calm : c.voice.state = .quiet ∨ c.voice.state = .muted)
    (closed : c.staged.enabled = false → c.detector.gate = .closed) : (c.commit damped).Sound mode damped := by
  have notSounding : c.voice.state ≠ .sounding := by rcases calm with h | h <;> rw [h] <;> nofun
  obtain ⟨unreported, unfixed⟩ := lawful.voice.unreported notSounding
  cases enables : c.staged.enabled
  · exact commit_disabled enables unreported unfixed (closed enables) mode damped
  have gate : (c.detector.commit c.staged).gate = c.detector.gate := Detector.commit_gate ..
  have dozes (h : mode = .doze) : (c.voice.state = .quiet ∨ c.voice.state = .muted)
      ∧ ((c.detector.commit c.staged).gate = .closed ∧ (c.detector.commit c.staged).judgementDue = false
        ∧ (c.detector.commit c.staged).completion = none)
      ∧ ((c.capture.commit c.staged).ring = [] ∧ (c.capture.commit c.staged).handed = none
        ∧ (c.capture.commit c.staged).delivered = none)
      ∧ c.lane.commit c.active c.staged = (c.lane.commit c.active c.staged).clearCrossing
      ∧ (c.gateLine.high = false ∧ c.gateLine.drop = none) := by
    have d := doze h
    exact ⟨calm, ⟨gate.trans d.detector.1, Detector.commit_judged _ d.detector.2.1,
      Detector.commit_completion ..⟩, Capture.commit_idle _ d.capture.2.1 d.capture.2.2,
      Lane.commit_crossing (.inr d.crossing), d.line⟩
  by_cases mutes : c.active.enabled = false ∧ damped = true
  · obtain ⟨was, rfl⟩ := mutes
    have d := lawful.disabled was
    have committed : c.commit true = { ({ c with
          active := c.staged, pendingFlag := false, lane := c.lane.commit c.active c.staged
          capture := c.capture.commit c.staged, detector := c.detector.commit c.staged } : Channel).entering
            .muted with voice := { c.voice.entering .muted with damp := true } } := by
      simp [commit, enables, was, entering]
    have openCause : c.voice.openCause = false := by rw [lawful.openMute, d.markers.2]; rfl
    have voice : ({ c.voice.entering .muted with damp := true } : Voice).Lawful :=
      Voice.entering_lawful (v := { c.voice with damp := true }) (.inr (.inr rfl)) unreported unfixed
        ⟨fun _ => rfl, fun _ => rfl⟩
    rw [committed]
    refine ⟨⟨voice, ⟨nofun, fun _ h => absurd rfl h⟩, d.line.1, ⟨?_, ?_, ?_⟩, ?_, ?_, fun off => ?_⟩, ?_,
      ?_, fun h => ?_⟩
    · simp [entering, Reporter.absent, Voice.entering]
    · simp [entering, Reporter.absent, Voice.entering]
    · simp [entering, Reporter.absent, Voice.entering]
    · simp [entering, Bleed.absent, Voice.entering]
    · exact openCause.trans (by rw [d.markers.2]; rfl)
    · exact absurd (enables.symm.trans off) nofun
    · exact enables.symm
    · exact fun _ => nofun
    · obtain ⟨-, detector, capture, crossing, line⟩ := dozes h
      exact ⟨.inr rfl, detector, capture, crossing, line⟩
  · have committed : c.commit damped = { c with
        active := c.staged, pendingFlag := false, lane := c.lane.commit c.active c.staged
        capture := c.capture.commit c.staged, detector := c.detector.commit c.staged } := by
      have keeps : (!c.active.enabled && damped) = false := by
        cases was : c.active.enabled <;> cases damped <;> simp_all
      simp [commit, enables, keeps]
    rw [committed]
    refine ⟨⟨lawful.voice, ?_, lawful.line, ⟨?_, ?_, ?_⟩, lawful.bleed, lawful.openMute, fun off => ?_⟩, ?_,
      fun _ => nofun, fun h => ?_⟩
    · simpa only [gateLawful, gate] using lawful.gate
    · exact lawful.reporter.output
    · exact lawful.reporter.lastReported
    · simpa [notSounding] using lawful.reporter.schedule
    · exact absurd (enables.symm.trans off) nofun
    · change c.voice.damp = (damped && c.staged.enabled)
      rw [enables, damp]
      cases was : c.active.enabled <;> cases damped <;> simp_all
    · obtain ⟨voice, detector, capture, crossing, line⟩ := dozes h
      exact ⟨voice, detector, capture, crossing, line⟩

/-! ## Entering QUIET (R65, R144) -/

/-- The string as its voice enters QUIET, a pending profile committed. -/
def Channel.toQuiet (damped : Bool) (c : Channel) : Channel :=
  if c.pendingFlag then (c.entering .quiet).commit damped else c.entering .quiet

theorem enterQuiet_eq (n : Str) (s : State) :
    enterQuiet n s = s.mod n (Channel.toQuiet s.mute.inForce) := by
  unfold enterQuiet commitProfile
  dsimp only
  split
  · next pending =>
    rw [State.mod_mod]
    exact State.mod_congr (if_pos pending).symm
  · next kept => exact State.mod_congr (if_neg kept).symm

/-- A string whose voice may enter QUIET: enabled, with no note reported, its line LOW, its gate CLOSED and no
mute cause. -/
structure Channel.Ready (c : Channel) : Prop where
  enabled : c.active.enabled = true
  unreported : c.voice.reported = false
  unfixed : c.voice.fix = false
  low : c.gateLine.high = false
  closed : c.detector.gate = .closed
  damp : c.voice.damp = false
  openCause : c.voice.openCause = false
  openMarks : c.openMarks.active = false

theorem Channel.Ready.toQuiet {c : Channel} (r : c.Ready) {mode : Mode}
    (doze : mode = .doze → (c.entering .quiet).DozeForm) :
    (c.toQuiet false).Sound mode false := by
  have causeless : c.voice.hasCause = false := by rw [Voice.hasCause, r.damp, r.openCause]; rfl
  have lawful : (c.entering .quiet).Lawful := entering_lawful r.enabled (.inl rfl) r.unreported r.unfixed r.low
    ⟨fun h => absurd (causeless.symm.trans h) nofun, nofun⟩ (fun _ => r.closed) nofun
    (r.openCause.trans r.openMarks.symm)
  unfold Channel.toQuiet
  split
  · exact commit_sound lawful r.damp doze (.inl rfl) fun _ => r.closed
  · next kept => exact ⟨lawful, r.damp, fun _ pending => absurd pending kept, doze⟩

end Sys2Proof.Machine
end

section
/-! A playing string in RUN stays sound through what reaches its voice: estimates, velocities, arrivals of its
detector, and the expiries of its timers (chapters 3 to 6). -/

namespace Sys2Proof.Machine

/-! ## A note under way -/

/-- A string whose note is under way. -/
structure Channel.Sings (damped : Bool) (c : Channel) : Prop where
  enabled : c.active.enabled = true
  voice : c.voice.Lawful
  sounding : c.voice.state = .sounding
  gate : c.detector.gate ≠ .closed
  line : c.gateLine.high = c.gateLine.drop.isNone
  output : c.reporter.output.isSome = true ↔ c.voice.startKind ≠ some .unpitched
  lastReported : c.reporter.lastReported.isSome = true
  schedule : c.reporter.schedule.isSome = true ↔ c.active.glideMode ≠ .onEstimate
  bleed : c.bleed.timer = none
  openMute : c.voice.openCause = c.openMarks.active
  damp : c.voice.damp = damped

theorem Channel.Sings.playing {damped : Bool} {c : Channel} (s : c.Sings damped) : c.Playing damped where
  enabled := s.enabled
  voice := s.voice
  gate := ⟨fun quiet => absurd (s.sounding.symm.trans quiet) nofun, fun _ _ => s.gate⟩
  line := by rw [lineLawful, s.sounding]; exact s.line
  reporter := ⟨by simp [s.sounding, s.output], by simp [s.sounding, s.lastReported],
    by simp [s.sounding, s.schedule]⟩
  bleed := by simp [s.sounding, s.bleed]
  openMute := s.openMute
  damp := s.damp
  pending _ quiet := absurd (s.sounding.symm.trans quiet) nofun

theorem Channel.Playing.sings {damped : Bool} {c : Channel} (p : c.Playing damped)
    (sounding : c.voice.state = .sounding) : c.Sings damped where
  enabled := p.enabled
  voice := p.voice
  sounding := sounding
  gate := p.gate.2 (by simp [sounding]) (by simp [sounding])
  line := by simpa [lineLawful, sounding] using p.line
  output := by simpa [sounding] using p.reporter.output
  lastReported := by simpa [sounding] using p.reporter.lastReported
  schedule := by simpa [sounding] using p.reporter.schedule
  bleed := by simpa [sounding] using p.bleed
  openMute := p.openMute
  damp := p.damp

/-- The voice and the reporter of a note under way changed within the note. -/
theorem Channel.Sings.set {damped : Bool} {c : Channel} (s : c.Sings damped) {v : Voice} {r : Reporter}
    (lawful : v.Lawful) (sounding : v.state = .sounding) (openCause : v.openCause = c.voice.openCause)
    (damp : v.damp = c.voice.damp) (output : r.output.isSome = true ↔ v.startKind ≠ some .unpitched)
    (lastReported : r.lastReported.isSome = true) (schedule : r.schedule = c.reporter.schedule) :
    ({ c with voice := v, reporter := r } : Channel).Playing damped :=
  Channel.Sings.playing
    { enabled := s.enabled, voice := lawful, sounding := sounding, gate := s.gate, line := s.line
      output := output, lastReported := lastReported, schedule := by rw [schedule]; exact s.schedule
      bleed := s.bleed, openMute := openCause.trans s.openMute, damp := damp.trans s.damp }

/-! ## A playing string and the ledger -/

/-- The ledger holds, and the damp mute is in force or not as `damped` says. -/
structure Tallied (damped : Bool) (s : State) : Prop where
  force : s.mute.inForce = damped
  ledger : Ledger s

theorem Tallied.of_outside {damped : Bool} {s t : State} (h : Tallied damped s) (outside : Outside s t)
    (ledger : Ledger t) : Tallied damped t :=
  ⟨(congrArg Mute.inForce outside.mute).trans h.force, ledger⟩

theorem Tallied.mod {damped : Bool} {n : Str} {s : State} {f : Channel → Channel} (h : Tallied damped s)
    (tally : (s.channel n).voice.SameTally (f (s.channel n)).voice) : Tallied damped (s.mod n f) :=
  ⟨h.force, h.ledger.mod tally⟩

/-- String `n` plays, and the ledger holds. -/
structure Running (damped : Bool) (n : Str) (s : State) : Prop extends Tallied damped s where
  playing : (s.channel n).Playing damped

/-- String `n` is sound in a mode, and the ledger holds. -/
structure Standing (mode : Mode) (damped : Bool) (n : Str) (s : State) : Prop extends Tallied damped s where
  sound : (s.channel n).Sound mode damped

section
variable {damped : Bool} {n : Str} {s : State}

theorem Running.standing (r : Running damped n s) : Standing .run damped n s := ⟨r.toTallied, r.playing.sound⟩

theorem Running.mod {f : Channel → Channel} (r : Running damped n s)
    (tally : (s.channel n).voice.SameTally (f (s.channel n)).voice)
    (playing : (f (s.channel n)).Playing damped) : Running damped n (s.mod n f) :=
  ⟨r.toTallied.mod tally, by rw [State.channel_mod_self]; exact playing⟩

theorem Running.of_onlyString {t : State} (r : Running damped n s) (only : OnlyString n s t) (ledger : Ledger t)
    (playing : (t.channel n).Playing damped) : Running damped n t :=
  ⟨r.toTallied.of_outside only.outside ledger, playing⟩

/-- The voice of a playing string changed, no note begun or ended toward the host. -/
theorem Running.modVoice {g : Voice → Voice} (r : Running damped n s)
    (tally : (s.channel n).voice.SameTally (g (s.channel n).voice))
    (lawful : (g (s.channel n).voice).Lawful) (state : (g (s.channel n).voice).state = (s.channel n).voice.state)
    (damp : (g (s.channel n).voice).damp = (s.channel n).voice.damp)
    (openCause : (g (s.channel n).voice).openCause = (s.channel n).voice.openCause)
    (kind : (s.channel n).voice.state = .sounding →
      ((g (s.channel n).voice).startKind ≠ some .unpitched ↔ (s.channel n).voice.startKind ≠ some .unpitched)) :
    Running damped n (s.mod n (.modVoice g)) :=
  r.mod tally (r.playing.modVoice lawful state damp openCause kind)

/-! ## Ending a note -/

theorem offerNoteOff_channel (lawful : (s.channel n).voice.Lawful) (reason : OffReason) :
    (offerNoteOff n reason s).channel n
      = (s.channel n).modVoice fun v => { v with reported := false, fix := false } := by
  cases reported : (s.channel n).voice.reported
  · rw [offerNoteOff_unreported reported, Channel.modVoice,
      Voice.unreported_eq_self reported (lawful.unfixed reported)]
  · exact (offerNoteOff_reported reported reason).2.2

theorem Channel.Playing.unreport {c : Channel} (p : c.Playing damped) :
    (c.modVoice fun v => { v with reported := false, fix := false }).Playing damped :=
  p.modVoice p.voice.unreport rfl rfl rfl fun _ => Iff.rfl

theorem offerNoteOff_running (r : Running damped n s) (reason : OffReason) :
    Running damped n (offerNoteOff n reason s) :=
  r.of_onlyString (offerNoteOff_onlyString ..) (r.ledger.offerNoteOff ..) (by
    rw [offerNoteOff_channel r.playing.voice]
    exact r.playing.unreport)

theorem endNote_ledger (ledger : Ledger s) (n : Str) (reason : OffReason) : Ledger (endNote n reason s) := by
  unfold endNote lowerLine
  exact (ledger.offerNoteOff n reason).mod (.refl _)

theorem endNote_running (r : Running damped n s) (reason : OffReason) : Running damped n (endNote n reason s) :=
  r.of_onlyString (endNote_onlyString ..) (endNote_ledger r.ledger ..) (by
    rw [endNote_channel r.playing.voice]
    exact r.playing.unreport.lower s.atFrameEnd)

/-! ## Beginning a note -/

theorem beginNote_channel (unreported : (s.channel n).voice.reported = false)
    (unfixed : (s.channel n).voice.fix = false) (base : Nat) (pitch : Option Nat) (offset : Int)
    (kind : StartKind) (flag : NoteFlag) (velocity : Nat) :
    (beginNote n base pitch offset kind flag velocity s).channel n = { s.channel n with
      voice := { Voice.reset with
        state := .sounding, damp := (s.channel n).voice.damp, openCause := (s.channel n).voice.openCause
        serial := (s.channel n).voice.serial + 1, baseNote := some base, currentPitch := pitch
        startKind := some kind, velocity := some velocity, stallTimer := some 0, stallFresh := s.atFrameEnd
        reported := s.hasRoom flag.room, fix := s.hasRoom flag.room && flag.mayNeedFix }
      bleed := .absent
      reporter := .begin (s.channel n).active.glideMode pitch offset s.atFrameEnd } := by
  have offered : ∃ g, (offerNoteOn n base velocity offset flag s).channel n = (s.channel n).modVoice g := by
    cases room : s.hasRoom flag.room
    · exact ⟨_, by rw [offerNoteOn_refused room, State.channel_refuse, State.channel_mod_self]⟩
    · exact ⟨_, (offerNoteOn_admitted room base velocity offset).2.2⟩
  obtain ⟨g, offered⟩ := offered
  rw [← (beginNote_begun unreported unfixed base pitch offset kind flag velocity).voice]
  simp only [beginNote, State.channel_mod_self, offered, Channel.modVoice]

/-- A note begun on a string with no note reported sings, once the line is HIGH or a drop runs. -/
theorem Running.begun (r : Running damped n s) (unreported : (s.channel n).voice.reported = false)
    (notQuiet : (s.channel n).voice.state ≠ .quiet) (notMuted : (s.channel n).voice.state ≠ .muted)
    (base : Nat) {pitch : Option Nat} (offset : Int) {kind : StartKind}
    (pitched : pitch.isSome = true ↔ kind ≠ .unpitched) (flag : NoteFlag) (velocity : Nat) {line : GateLine}
    (raised : line.high = line.drop.isNone) :
    Ledger (beginNote n base pitch offset kind flag velocity s)
      ∧ ({ (beginNote n base pitch offset kind flag velocity s).channel n with gateLine := line } : Channel).Sings
        damped := by
  have unfixed := r.playing.voice.unfixed unreported
  refine ⟨(r.ledger.offerNoteOn unreported unfixed ..).mod ⟨rfl, rfl, fun _ => rfl⟩, ?_⟩
  rw [beginNote_channel unreported unfixed]
  exact
    { enabled := r.playing.enabled
      voice := Voice.begun_lawful (r.playing.voice.causeless notMuted)
        (fun both => (Bool.and_eq_true_iff.mp both).1) pitched
      sounding := rfl
      gate := r.playing.gate.2 notQuiet notMuted
      line := raised
      output := pitched.trans (by simp)
      lastReported := rfl
      schedule := by simp only [Reporter.begin]; split <;> simp_all
      bleed := rfl
      openMute := r.playing.openMute
      damp := r.playing.damp }

/-- A note begun from ACQUIRING raises the line (R120). -/
theorem Running.beginAcquired (r : Running damped n s) (acquiring : (s.channel n).voice.state = .acquiring)
    (base : Nat) {pitch : Option Nat} (offset : Int) {kind : StartKind}
    (pitched : pitch.isSome = true ↔ kind ≠ .unpitched) (flag : NoteFlag) (velocity : Nat) :
    Running damped n (raiseLine n (beginNote n base pitch offset kind flag velocity s)) := by
  have notSounding : (s.channel n).voice.state ≠ .sounding := by simp [acquiring]
  have unreported := (r.playing.voice.unreported notSounding).1
  have low := r.playing.line.low notSounding
  have begun {line : GateLine} := r.begun (line := line) unreported (by simp [acquiring]) (by simp [acquiring])
    base offset pitched flag velocity
  have line := congrArg Channel.gateLine (beginNote_channel unreported (r.playing.voice.unfixed unreported) base
    pitch offset kind flag velocity)
  refine r.of_onlyString ((beginNote_onlyString ..).trans (raiseLine_onlyString ..))
    ((begun (line := ⟨true, false, none, false, false⟩) rfl).1.mod ?_) ?_
  · split <;> exact .refl _
  · rw [raiseLine, State.channel_mod_self]
    split
    · next none => exact (begun (line := { GateLine.reset with
        high := true, pin := _, drop := _, checkDue := _, fresh := _ }) none.symm).2.playing
    · next running =>
      rw [Bool.not_eq_true] at running
      exact (begun (line := _) ((congrArg GateLine.high line).trans (low.trans running.symm))).2.playing

theorem tryBegin_running (r : Running damped n s) : Running damped n (tryBegin n s) := by
  unfold tryBegin
  dsimp only
  split
  · next acquiring =>
    split
    · next velocity pitch _ known =>
      have learned := (r.playing.voice.learned acquiring).mp (by rw [known]; rfl)
      refine r.beginAcquired acquiring _ _ ?_ _ _
      rcases learned with e | e <;> simp [e]
    · split
      · exact r.beginAcquired acquiring _ _ (by simp) _ _
      · exact r
    · exact r
  · exact r

/-- The next note of a note under way (R78, R79). -/
theorem nextNote_running (r : Running damped n s) (sounding : (s.channel n).voice.state = .sounding) (pitch : Nat)
    (reason : OffReason) (flag : NoteFlag) : Running damped n (nextNote n pitch reason flag s) := by
  have ended := offerNoteOff_running r reason
  have channel := offerNoteOff_channel r.playing.voice reason
  have still : ((offerNoteOff n reason s).channel n).voice.state = .sounding := by rw [channel]; exact sounding
  have unreported : ((offerNoteOff n reason s).channel n).voice.reported = false := by rw [channel]; rfl
  have begun := ended.begun unreported (by simp [still]) (by simp [still]) (noteOf pitch) (pitch := some pitch)
    (offsetFrom (noteOf pitch) pitch) (kind := .normal) (by simp) flag ((s.channel n).voice.velocity.getD 1)
    (ended.playing.sings still).line
  refine r.of_onlyString (nextNote_onlyString ..) begun.1 ?_
  have line := congrArg Channel.gateLine (beginNote_channel unreported (ended.playing.voice.unfixed unreported)
    (noteOf pitch) (some pitch) (offsetFrom (noteOf pitch) pitch) .normal flag
    ((s.channel n).voice.velocity.getD 1))
  have sings := begun.2.playing
  rwa [← line] at sings

end

end Sys2Proof.Machine
end

section
/-! A playing string stays sound through its estimates, its velocity and its timers (chapters 4 to 6). -/

namespace Sys2Proof.Machine

section
variable {damped : Bool} {n : Str} {s : State}

/-! ## Reports (R113, R130) -/

/-- What a GLIDE offered leaves of its string: at most another last reported offset. -/
theorem offerGlide_channel (n : Str) (offset : Int) (s : State) :
    (offerGlide n offset s).channel n = s.channel n ∨ (offerGlide n offset s).channel n
      = { s.channel n with reporter := { (s.channel n).reporter with lastReported := some offset } } := by
  unfold offerGlide
  cases glideAnswer n s with
  | merged => exact .inr (s.channel_mod_self n fun c =>
      { c with reporter := { c.reporter with lastReported := some offset } })
  | admitted => exact .inr (by simp)
  | dropped => exact .inl rfl

theorem considerReport_only (n : Str) (offset : Int) (s : State) :
    ((considerReport n offset s).channel n).voice = (s.channel n).voice := by
  unfold considerReport
  dsimp only
  split
  · rcases offerGlide_channel n offset s with e | e <;> rw [e]
  · rfl

theorem considerReport_running (r : Running damped n s) (offset : Int) :
    Running damped n (considerReport n offset s) := by
  unfold considerReport
  dsimp only
  split
  · next reports =>
    obtain ⟨⟨⟨sounding, reported⟩, -⟩, -⟩ : (((s.channel n).voice.state = .sounding
        ∧ (s.channel n).voice.reported = true) ∧ _) ∧ _ := by
      simpa [Channel.reportable, and_assoc] using reports
    refine r.of_onlyString (offerGlide_onlyString ..) (r.ledger.offerGlide reported offset) ?_
    rcases offerGlide_channel n offset s with e | e <;> rw [e]
    · exact r.playing
    · have sings := r.playing.sings sounding
      exact sings.set sings.voice sounding rfl rfl sings.output rfl rfl
  · exact r

theorem considerOutput_running (r : Running damped n s) : Running damped n (considerOutput n s) := by
  unfold considerOutput
  split
  · exact considerReport_running r _
  · exact r

theorem reportOnEstimate_running (r : Running damped n s) : Running damped n (reportOnEstimate n s) := by
  unfold reportOnEstimate
  split
  · exact considerOutput_running r
  · exact r

/-! ## Fixes (R73, R129) -/

/-- A string whose voice may have given its fix reservation up. -/
theorem Channel.Playing.unfix {c : Channel} (p : c.Playing damped) :
    (c.modVoice fun v => { v with fix := false }).Playing damped :=
  p.modVoice p.voice.unfix rfl rfl rfl fun _ => Iff.rfl

theorem offerPitchFix_running (r : Running damped n s) (base : Nat) (offset : Int) :
    Running damped n (offerPitchFix n base offset s) := by
  refine r.of_onlyString (offerPitchFix_onlyString ..) (r.ledger.offerPitchFix ..) ?_
  unfold offerPitchFix
  dsimp only
  split
  · simpa using r.playing.unfix
  · exact r.playing

theorem releaseFix_running (r : Running damped n s) : Running damped n (releaseFix n s) := by
  refine r.of_onlyString (releaseFix_onlyString ..) (r.ledger.releaseFix ..) ?_
  unfold releaseFix
  split
  · simpa using r.playing.unfix
  · exact r.playing

/-! ## Estimates in SUSPECT and ACQUIRING (R66, R69) -/

theorem Voice.learn_only (policy : StartPolicy) (e : Estimate) (v : Voice) :
    v.SameTally (v.learn policy e) ∧ (v.learn policy e).state = v.state ∧ (v.learn policy e).damp = v.damp
      ∧ (v.learn policy e).openCause = v.openCause := by
  unfold learn
  split <;> exact ⟨⟨rfl, rfl, fun _ => rfl⟩, rfl, rfl, rfl⟩

theorem estimateAcquiring_running (r : Running damped n s) (acquiring : (s.channel n).voice.state = .acquiring)
    (e : Estimate) : Running damped n (estimateAcquiring n e s) := by
  obtain ⟨tally, state, damp, openCause⟩ :=
    Voice.learn_only (s.channel n).active.startPolicy e (s.channel n).voice
  exact tryBegin_running (r.mod tally (r.playing.modVoice (r.playing.voice.learn acquiring _ e) state damp
    openCause fun sounding => absurd (acquiring.symm.trans sounding) nofun))

/-! ## Full estimates in SOUNDING (R73 to R79) -/

theorem settleStart_running (r : Running damped n s) (sounding : (s.channel n).voice.state = .sounding)
    (pitch : Nat) : Running damped n (settleStart n pitch s) := by
  have sings := r.playing.sings sounding
  have lawful : ({ (s.channel n).voice.confirmPitch s.atFrameEnd with
      baseNote := some (noteOf pitch), currentPitch := some pitch
      startKind := some .normal } : Voice).Lawful :=
    (r.playing.voice.confirmPitch sounding s.atFrameEnd).settle sounding (noteOf pitch) pitch
  unfold settleStart
  dsimp only
  split
  · rw [State.mod_mod]
    refine offerPitchFix_running (r.mod ⟨rfl, rfl, fun _ => rfl⟩ ?_) _ _
    exact sings.set lawful sounding rfl rfl (by simp) rfl rfl
  · refine reportOnEstimate_running (releaseFix_running (r.mod ⟨rfl, rfl, fun _ => rfl⟩ ?_))
    exact sings.set lawful sounding rfl rfl (by simp) sings.lastReported rfl

theorem bendTest_running (r : Running damped n s) (sounding : (s.channel n).voice.state = .sounding)
    (pitch : Nat) : Running damped n (bendTest n pitch s) := by
  unfold bendTest
  dsimp only
  split
  · exact nextNote_running (considerReport_running r _) ((congrArg Voice.state (considerReport_only ..)).trans
      sounding) ..
  · exact reportOnEstimate_running r

theorem setCurrent_running (r : Running damped n s) (sounding : (s.channel n).voice.state = .sounding)
    (normal : (s.channel n).voice.startKind = some .normal) (pitch : Nat) :
    Running damped n (s.mod n (.setCurrent pitch)) := by
  have sings := r.playing.sings sounding
  have lawful := r.playing.voice.setPitch sounding normal pitch
  refine r.mod ⟨rfl, rfl, fun _ => rfl⟩ ?_
  unfold Channel.setCurrent
  split
  · exact sings.set lawful sounding rfl rfl (by simp [normal]) sings.lastReported rfl
  · exact sings.set lawful sounding rfl rfl sings.output sings.lastReported rfl

theorem confirmCandidate_running (r : Running damped n s) (sounding : (s.channel n).voice.state = .sounding)
    (normal : (s.channel n).voice.startKind = some .normal) (pitch : Nat) :
    Running damped n (confirmCandidate n pitch s) := by
  have current := setCurrent_running r sounding normal pitch
  unfold confirmCandidate
  dsimp only
  split
  · split
    · exact bendTest_running current (by rw [State.channel_mod_self]; exact sounding) pitch
    · exact reportOnEstimate_running current
  · exact nextNote_running r sounding ..

theorem candidateTest_running (r : Running damped n s) (sounding : (s.channel n).voice.state = .sounding)
    (normal : (s.channel n).voice.startKind = some .normal) (pitch : Nat) :
    Running damped n (candidateTest n pitch s) := by
  have held := r.modVoice (g := fun v => { v with candidate := some ((s.channel n).nextCandidate pitch) })
    ⟨rfl, rfl, fun _ => rfl⟩ (r.playing.voice.setCandidate sounding _) rfl rfl rfl fun _ => Iff.rfl
  unfold candidateTest
  dsimp only
  split
  · exact confirmCandidate_running held (by rw [State.channel_mod_self]; exact sounding)
      (by rw [State.channel_mod_self]; exact normal) pitch
  · exact held

theorem readEstimate_running (r : Running damped n s) (sounding : (s.channel n).voice.state = .sounding)
    (normal : (s.channel n).voice.startKind = some .normal) (pitch : Nat) :
    Running damped n (readEstimate n pitch s) := by
  have confirmed := r.modVoice (g := .confirmPitch s.atFrameEnd) ⟨rfl, rfl, fun _ => rfl⟩
    (r.playing.voice.confirmPitch sounding _) rfl rfl rfl fun _ => Iff.rfl
  have still : ((s.mod n (.modVoice (.confirmPitch s.atFrameEnd))).channel n).voice.state = .sounding := by
    rw [State.channel_mod_self]; exact sounding
  have known : ((s.mod n (.modVoice (.confirmPitch s.atFrameEnd))).channel n).voice.startKind
      = some .normal := by rw [State.channel_mod_self]; exact normal
  have current := setCurrent_running confirmed still known pitch
  have singing : (((s.mod n (.modVoice (.confirmPitch s.atFrameEnd))).mod n (.setCurrent pitch)).channel
      n).voice.state = .sounding := by rw [State.channel_mod_self]; exact still
  unfold readEstimate
  dsimp only
  split
  · split
    · exact reportOnEstimate_running current
    · exact candidateTest_running confirmed still known pitch
  · exact bendTest_running current singing pitch
  · split
    · exact bendTest_running current singing pitch
    · exact candidateTest_running confirmed still known pitch

theorem estimateSounding_running (r : Running damped n s) (sounding : (s.channel n).voice.state = .sounding)
    (e : Estimate) : Running damped n (estimateSounding n e s) := by
  unfold estimateSounding
  split
  · exact r
  · split
    · next normal => exact readEstimate_running r sounding normal _
    · exact settleStart_running r sounding _

theorem voiceEstimate_running (r : Running damped n s) (e : Estimate) :
    Running damped n (voiceEstimate n e s) := by
  unfold voiceEstimate
  split
  · next suspect =>
    exact r.modVoice (g := fun v => { v with held := some e }) ⟨rfl, rfl, fun _ => rfl⟩
      (r.playing.voice.setHeld suspect e) rfl rfl rfl fun _ => Iff.rfl
  · next acquiring => exact estimateAcquiring_running r acquiring e
  · next sounding => exact estimateSounding_running r sounding e
  all_goals exact r

/-- A playing string plays whatever its capture unit holds. -/
theorem Channel.Playing.setCapture {c : Channel} (p : c.Playing damped) (u : Capture) :
    ({ c with capture := u } : Channel).Playing damped :=
  { p with reporter := ⟨p.reporter.output, p.reporter.lastReported, p.reporter.schedule⟩ }

/-- A playing string plays whatever its detector holds, the gate as the voice's state has it. -/
theorem Channel.Playing.setDetector {c : Channel} (p : c.Playing damped) {d : Detector}
    (gate : ({ c with detector := d } : Channel).gateLawful) :
    ({ c with detector := d } : Channel).Playing damped :=
  { p with gate := gate, reporter := ⟨p.reporter.output, p.reporter.lastReported, p.reporter.schedule⟩ }

theorem takeCrossing_running (r : Running damped n s) : Running damped n (takeCrossing n s) := by
  unfold takeCrossing
  split
  · exact r.mod (.refl _) (r.playing.setCapture _)
  · exact r

theorem takeEstimate_running (r : Running damped n s) : Running damped n (takeEstimate n s) := by
  unfold takeEstimate
  split
  · exact voiceEstimate_running (r.mod (.refl _) (r.playing.setCapture _)) _
  · exact r

/-! ## The velocity (R64) -/

theorem voiceCompletion_running (r : Running damped n s) (value : Nat) :
    Running damped n (voiceCompletion n value s) := by
  unfold voiceCompletion
  dsimp only
  split
  · next takes =>
    have attack : (s.channel n).voice.state = .suspect ∨ (s.channel n).voice.state = .acquiring := by
      simpa using (Bool.and_eq_true_iff.mp takes).1
    exact tryBegin_running (r.modVoice
      (g := fun v => { v with velocity := some (max value v.carried) }) ⟨rfl, rfl, fun _ => rfl⟩
      (r.playing.voice.setVelocity attack (some (max value (s.channel n).voice.carried)) _) rfl rfl rfl
      fun _ => Iff.rfl)
  · exact r

theorem takeCompletion_running (r : Running damped n s) : Running damped n (takeCompletion n s) := by
  unfold takeCompletion
  split
  · exact voiceCompletion_running (r.mod
      (f := fun c => { c with detector := { c.detector with completion := none } }) (.refl _)
      (r.playing.setDetector r.playing.gate)) _
  · exact r

/-! ## Timers of the voice (R71, R82, R83) -/

theorem expireAcquisition_running (r : Running damped n s) : Running damped n (expireAcquisition n s) := by
  unfold expireAcquisition
  dsimp only
  split
  · next expires =>
    obtain ⟨⟨acquiring, -⟩, unknown⟩ : ((s.channel n).voice.state = .acquiring ∧ _)
        ∧ (s.channel n).voice.currentPitch = none := by simpa using expires
    exact tryBegin_running (r.modVoice
      (g := fun v => { v with acqExpired := true, startKind := some .unpitched }) ⟨rfl, rfl, fun _ => rfl⟩
      (r.playing.voice.expire acquiring unknown) rfl rfl rfl
      fun sounding => absurd (acquiring.symm.trans sounding) nofun)
  · exact r

theorem expireStall_running (r : Running damped n s) : Running damped n (expireStall n s) := by
  unfold expireStall
  dsimp only
  split
  · next expires =>
    obtain ⟨⟨sounding, -⟩, -⟩ : ((s.channel n).voice.state = .sounding ∧ _) ∧ _ := by simpa using expires
    exact r.modVoice (g := fun v => { v with lost := true, lostTimer := some 0 }) ⟨rfl, rfl, fun _ => rfl⟩
      (r.playing.voice.lose sounding) rfl rfl rfl fun _ => Iff.rfl
  · exact r

/-- A note that has ended with the voice SILENT. -/
theorem endNote_silenced (r : Running damped n s) (sounding : (s.channel n).voice.state = .sounding)
    (reason : OffReason) : Running damped n ((endNote n reason s).mod n (.entering .silent)) := by
  have ended := endNote_running r reason
  have channel := endNote_channel r.playing.voice reason
  have still : ((endNote n reason s).channel n).voice.state = .sounding := by rw [channel]; exact sounding
  exact ended.mod ⟨rfl, rfl, fun _ => rfl⟩ (ended.playing.silence (by rw [channel]) (by rw [channel])
    (ended.playing.voice.causeless (by simp [still])) (ended.playing.sings still).gate)

theorem expireLost_running (r : Running damped n s) : Running damped n (expireLost n s) := by
  unfold expireLost
  dsimp only
  split
  · next expires =>
    obtain ⟨⟨sounding, -⟩, -⟩ : ((s.channel n).voice.state = .sounding ∧ _) ∧ _ := by simpa using expires
    exact endNote_silenced r sounding .lost
  · exact r

/-! ## A suspicion (R67, R102) -/

/-- A voice with no note and no cause becomes SILENT. -/
theorem silence_running (r : Running damped n s) (notQuiet : (s.channel n).voice.state ≠ .quiet)
    (notSounding : (s.channel n).voice.state ≠ .sounding) (notMuted : (s.channel n).voice.state ≠ .muted) :
    Running damped n (s.mod n (.entering .silent)) :=
  r.mod ⟨rfl, rfl, fun _ => rfl⟩ (r.playing.silence (r.playing.voice.unreported notSounding).1
    (r.playing.line.low notSounding) (r.playing.voice.causeless notMuted) (r.playing.gate.2 notQuiet notMuted))

/-- A voice whose note, if any, has ended takes an attack, its gate open. -/
theorem attack_running (r : Running damped n s) (unreported : (s.channel n).voice.reported = false)
    (low : (s.channel n).gateLine.high = false) (notQuiet : (s.channel n).voice.state ≠ .quiet)
    (notMuted : (s.channel n).voice.state ≠ .muted) (pass : Bool) (velocity : Option Nat) (carried : Nat) :
    Running damped n (s.mod n (if pass then .acquiring velocity carried else .suspecting velocity carried)) := by
  have playing := Channel.Playing.attacked r.playing.enabled unreported (r.playing.voice.unfixed unreported) low
    (r.playing.voice.causeless notMuted) (r.playing.gate.2 notQuiet notMuted) r.playing.openMute r.playing.damp
    pass velocity carried
  exact r.mod (by cases pass <;> exact ⟨rfl, rfl, fun _ => rfl⟩) playing

theorem passSuspicion_running (r : Running damped n s) (suspect : (s.channel n).voice.state = .suspect) :
    Running damped n (passSuspicion n s) := by
  have notSounding : (s.channel n).voice.state ≠ .sounding := by simp [suspect]
  have acquired := attack_running r (r.playing.voice.unreported notSounding).1 (r.playing.line.low notSounding)
    (by simp [suspect]) (by simp [suspect]) true (s.channel n).voice.velocity (s.channel n).voice.carried
  unfold passSuspicion
  dsimp only
  split
  · exact acquired
  · exact estimateAcquiring_running acquired (by rw [State.channel_mod_self]; rfl) _

theorem bleedStep_running (r : Running damped n s) : Running damped n (bleedStep n s) := by
  unfold bleedStep
  split
  · exact r
  · next t due =>
    have suspect : (s.channel n).voice.state = .suspect := by
      by_contra other
      simp [Channel.stepTimer, other] at due
    split
    · split
      · exact r
      · exact passSuspicion_running r suspect
    · split
      · exact silence_running r (by simp [suspect]) (by simp [suspect]) (by simp [suspect])
      · exact r.mod (.refl _) { r.playing with
          bleed := by simp [suspect]
          reporter := ⟨r.playing.reporter.output, r.playing.reporter.lastReported,
            r.playing.reporter.schedule⟩ }

/-! ## FLUSH (R92) -/

theorem flushVoice_running (r : Running damped n s) : Running damped n (flushVoice n s) := by
  have opened (notQuiet : (s.channel n).voice.state ≠ .quiet) (notMuted : (s.channel n).voice.state ≠ .muted) :=
    r.playing.gate.2 notQuiet notMuted
  unfold flushVoice
  dsimp only
  split
  · next sounding =>
    have gate := (r.playing.sings sounding).gate
    rw [if_neg (by rw [endNote_channel r.playing.voice]; exact gate)]
    exact endNote_silenced r sounding .flush
  · next acquiring =>
    rw [if_neg (opened (by simp [acquiring]) (by simp [acquiring]))]
    exact silence_running r (by simp [acquiring]) (by simp [acquiring]) (by simp [acquiring])
  · next suspect =>
    rw [if_neg (opened (by simp [suspect]) (by simp [suspect]))]
    exact silence_running r (by simp [suspect]) (by simp [suspect]) (by simp [suspect])
  all_goals exact r

end

end Sys2Proof.Machine
end

section
/-! A playing string stays sound through the judgements of its detector and the arrivals they make (chapter 3). -/

namespace Sys2Proof.Machine

/-! ## The gate through the parts of a judgement -/

theorem Detector.countFrame_gate (reference : Nat) (d : Detector) : (d.countFrame reference).gate = d.gate := by
  unfold countFrame
  dsimp only
  split <;> rfl

theorem Detector.attack_gate (p : Profile) (reference : Nat) (clip : Bool) (envelope : Nat) (d : Detector) :
    (d.attack p reference clip envelope).gate = .opened := countFrame_gate ..

theorem Detector.keepFloor_gate (envelope : Nat) (d : Detector) : (d.keepFloor envelope).gate = d.gate := by
  unfold keepFloor
  split <;> rfl

theorem Detector.track_gate (p : Profile) (clip : Bool) (envelope : Nat) (d : Detector) :
    (d.track p clip envelope).gate = d.gate := by
  unfold track
  split
  · exact countFrame_gate ..
  · rfl

/-- A judgement under a CLOSED gate finds an ONSET at most (R43, R44). -/
theorem Channel.verdict_of_closed {c : Channel} (closed : c.detector.gate = .closed) :
    c.verdict = .stays ∨ c.verdict = .clearsWait ∨ c.verdict = .onset := by
  unfold verdict
  dsimp only
  rw [closed]
  dsimp only
  split <;> split <;> simp

section
variable {damped : Bool} {n : Str} {s : State}

/-! ## Entering QUIET (R65, R144) -/

theorem Channel.commit_tally (damped : Bool) (c : Channel) : c.voice.SameTally (c.commit damped).voice := by
  unfold commit
  dsimp only
  split
  · split <;> exact ⟨rfl, rfl, fun _ => rfl⟩
  · exact ⟨rfl, rfl, fun _ => rfl⟩

theorem Channel.toQuiet_tally (damped : Bool) (c : Channel) : c.voice.SameTally (c.toQuiet damped).voice := by
  unfold toQuiet
  split
  · obtain ⟨reported, fix, serial⟩ := commit_tally damped (c.entering .quiet)
    exact ⟨reported, fix, serial⟩
  · exact ⟨rfl, rfl, fun _ => rfl⟩

theorem enterQuiet_channel (n : Str) (s : State) :
    (enterQuiet n s).channel n = (s.channel n).toQuiet s.mute.inForce := by
  rw [enterQuiet_eq, State.channel_mod_self]

theorem enterQuiet_tallied (h : Tallied damped s) (n : Str) : Tallied damped (enterQuiet n s) := by
  rw [enterQuiet_eq]
  exact h.mod (Channel.toQuiet_tally ..)

theorem enterQuiet_standing (h : Tallied false s) (ready : (s.channel n).Ready) :
    Standing .run false n (enterQuiet n s) := by
  refine ⟨enterQuiet_tallied h n, ?_⟩
  rw [enterQuiet_channel, h.force]
  exact ready.toQuiet nofun

/-- A playing string that is not MUTED knows that the damp mute is not in force. -/
theorem Channel.Playing.undamped {c : Channel} (p : c.Playing damped) (notMuted : c.voice.state ≠ .muted) :
    damped = false :=
  p.damp.symm.trans (p.voice.unmuted notMuted).1

/-- A playing string with its note, if any, ended, is ready to enter QUIET as its gate closes. -/
theorem Channel.Playing.ready {c : Channel} (p : c.Playing damped) (unreported : c.voice.reported = false)
    (low : c.gateLine.high = false) (notMuted : c.voice.state ≠ .muted) {d : Detector}
    (closed : d.gate = .closed) : ({ c with detector := d } : Channel).Ready :=
  have causes := p.voice.unmuted notMuted
  ⟨p.enabled, unreported, p.voice.unfixed unreported, low, closed, causes.1, causes.2,
    p.openMute.symm.trans causes.2⟩

/-! ## RELEASE (R68, R72, R81) -/

theorem modDetector_channel (n : Str) (f : Channel → Detector) (s : State) :
    (modDetector n f s).channel n = { s.channel n with detector := f (s.channel n) } :=
  State.channel_mod_self ..

theorem modDetector_tallied (h : Tallied damped s) (n : Str) (f : Channel → Detector) :
    Tallied damped (modDetector n f s) := Tallied.mod h (.refl _)

theorem modDetector_running (r : Running damped n s) {f : Channel → Detector}
    (gate : ({ s.channel n with detector := f (s.channel n) } : Channel).gateLawful) :
    Running damped n (modDetector n f s) :=
  ⟨modDetector_tallied r.toTallied n f, by rw [modDetector_channel]; exact r.playing.setDetector gate⟩

/-- The detector changed with its gate as it was. -/
theorem modDetector_running_same (r : Running damped n s) {f : Channel → Detector}
    (gate : (f (s.channel n)).gate = (s.channel n).detector.gate) : Running damped n (modDetector n f s) :=
  modDetector_running r (by simpa only [Channel.gateLawful, gate] using r.playing.gate)

/-- A RELEASE reaches a playing string's voice with the gate CLOSED. -/
theorem voiceRelease_standing (r : Running damped n s) {f : Channel → Detector}
    (closed : (f (s.channel n)).gate = .closed) :
    Standing .run damped n (voiceRelease n (modDetector n f s)) := by
  have channel := modDetector_channel n f s
  have tallied := modDetector_tallied r.toTallied n f
  have calm (h : (s.channel n).voice.state ≠ .sounding) (notMuted : (s.channel n).voice.state ≠ .muted) :
      Standing .run damped n (enterQuiet n (modDetector n f s)) := by
    cases r.playing.undamped notMuted
    refine enterQuiet_standing tallied ?_
    rw [channel]
    exact r.playing.ready (r.playing.voice.unreported h).1 (r.playing.line.low h) notMuted closed
  have stays (h : (s.channel n).voice.state = .quiet ∨ (s.channel n).voice.state = .muted) :
      Standing .run damped n (modDetector n f s) :=
    (modDetector_running r ⟨fun _ => closed, fun notQuiet notMuted =>
      absurd (h.resolve_left notQuiet) notMuted⟩).standing
  have state : ((modDetector n f s).channel n).voice.state = (s.channel n).voice.state := by rw [channel]
  unfold voiceRelease
  split
  · next sounding =>
    have sounding := state.symm.trans sounding
    have notMuted : (s.channel n).voice.state ≠ .muted := by simp [sounding]
    cases r.playing.undamped notMuted
    have lawful : ((modDetector n f s).channel n).voice.Lawful := by rw [channel]; exact r.playing.voice
    refine enterQuiet_standing (tallied.of_outside (endNote_onlyString ..).outside
      (endNote_ledger tallied.ledger ..)) ?_
    rw [endNote_channel lawful, channel]
    exact (r.playing.unreport.lower (modDetector n f s).atFrameEnd).ready rfl rfl notMuted closed
  · next h => exact calm (by simp [← state, h]) (by simp [← state, h])
  · next h => exact calm (by simp [← state, h]) (by simp [← state, h])
  · next h => exact calm (by simp [← state, h]) (by simp [← state, h])
  · next h => exact stays (.inl (state.symm.trans h))
  · next h => exact stays (.inr (state.symm.trans h))

theorem releaseGate_standing (r : Running damped n s) : Standing .run damped n (releaseGate n s) :=
  voiceRelease_standing r rfl

/-! ## ONSET and RESTRIKE (R65, R68, R72, R80) -/

/-- An ONSET reaches a playing string's voice as the gate opens. -/
theorem voiceOnset_running (r : Running damped n s) {f : Channel → Detector}
    (opened : (f (s.channel n)).gate ≠ .closed) (wakeMark : Bool) :
    Running damped n (voiceOnset n wakeMark (modDetector n f s)) := by
  have channel := modDetector_channel n f s
  have state : ((modDetector n f s).channel n).voice.state = (s.channel n).voice.state := by rw [channel]
  unfold voiceOnset
  split
  · next quiet =>
    have quiet := state.symm.trans quiet
    have notSounding : (s.channel n).voice.state ≠ .sounding := by simp [quiet]
    obtain ⟨unreported, unfixed⟩ := r.playing.voice.unreported notSounding
    have tallied : Tallied damped (restartRing n (if wakeMark then 2 else 0) (modDetector n f s)) :=
      Tallied.mod (modDetector_tallied r.toTallied n f) (.refl _)
    generalize bleedPasses (modDetector n f s) n = pass
    refine ⟨tallied.mod (by cases pass <;> exact ⟨rfl, rfl, fun _ => rfl⟩), ?_⟩
    rw [State.channel_mod_self, restartRing, State.channel_mod_self, channel]
    exact Channel.Playing.attacked (c := { s.channel n with detector := f (s.channel n), capture := _ })
      r.playing.enabled unreported unfixed (r.playing.line.low notSounding)
      (r.playing.voice.causeless (by simp [quiet])) opened r.playing.openMute r.playing.damp pass none 0
  · next other =>
    have notQuiet : (s.channel n).voice.state ≠ .quiet := fun quiet => other (state.trans quiet)
    exact modDetector_running r ⟨fun quiet => absurd quiet notQuiet, fun _ _ => opened⟩

theorem restartRing_running (r : Running damped n s) (extension : Nat) :
    Running damped n (restartRing n extension s) := r.mod (.refl _) (r.playing.setCapture _)

theorem voiceRestrike_running (r : Running damped n s) (prior : Nat) :
    Running damped n (voiceRestrike n prior s) := by
  have restarted := restartRing_running r 0
  have channel : (restartRing n 0 s).channel n
      = { s.channel n with capture := (s.channel n).capture.restart (s.channel n).active 0 } :=
    State.channel_mod_self ..
  have attack (st : VoiceState) (h : (s.channel n).voice.state = st) (notQuiet : st ≠ .quiet)
      (notSounding : st ≠ .sounding) (notMuted : st ≠ .muted) (pass : Bool) (carried : Nat) :
      Running damped n ((restartRing n 0 s).mod n
        (if pass then .acquiring none carried else .suspecting none carried)) := by
    cases h
    refine attack_running restarted ?_ ?_ ?_ ?_ pass none carried <;> rw [channel]
    exacts [(r.playing.voice.unreported notSounding).1, r.playing.line.low notSounding, notQuiet, notMuted]
  unfold voiceRestrike
  dsimp only
  split
  · next suspect => exact attack _ suspect nofun nofun nofun _ _
  · next acquiring =>
    split
    · exact attack _ acquiring nofun nofun nofun true _
    · exact r.modVoice (g := fun v => { v with carried := _, velocity := none }) ⟨rfl, rfl, fun _ => rfl⟩
        (r.playing.voice.setVelocity (.inr acquiring) none _) rfl rfl rfl fun _ => Iff.rfl
  · next sounding =>
    split
    · have ended := restartRing_running (endNote_running r .restrike) 0
      have last : (restartRing n 0 (endNote n .restrike s)).channel n
          = { (endNote n .restrike s).channel n with
            capture := ((endNote n .restrike s).channel n).capture.restart
              ((endNote n .restrike s).channel n).active 0 } := State.channel_mod_self ..
      rw [endNote_channel r.playing.voice] at last
      refine attack_running ended ?_ ?_ ?_ ?_ true none 0 <;> rw [last]
      all_goals simp [sounding]
    · exact r
  · next silent => exact attack _ silent nofun nofun nofun _ 0
  all_goals exact r

/-! ## The judgement (R42 to R52) -/

theorem finishJudgement_running (r : Running damped n s) : Running damped n (finishJudgement n s) :=
  modDetector_running_same r ((Detector.track_gate ..).trans (Detector.keepFloor_gate ..))

/-- The detector's gate set open or to DIP under a voice that is not QUIET. -/
theorem modDetector_running_opened (r : Running damped n s) {f : Channel → Detector}
    (opened : (s.channel n).detector.gate ≠ .closed) (opens : (f (s.channel n)).gate ≠ .closed) :
    Running damped n (modDetector n f s) :=
  modDetector_running r ⟨fun quiet => absurd (r.playing.gate.1 quiet) opened, fun _ _ => opens⟩

theorem onset_running (r : Running damped n s) (reference : Nat) (wakeMark : Bool) :
    Running damped n (attackGate n reference (voiceOnset n wakeMark) s) :=
  voiceOnset_running r (by rw [Detector.keepFloor_gate, Detector.attack_gate]; nofun) wakeMark

theorem restrike_running (r : Running damped n s) (opened : (s.channel n).detector.gate ≠ .closed)
    (reference prior : Nat) : Running damped n (attackGate n reference (voiceRestrike n prior) s) :=
  voiceRestrike_running (modDetector_running_opened r opened (by
    rw [Detector.keepFloor_gate, Detector.attack_gate]; nofun)) prior

theorem actOn_standing (r : Running damped n s) {verdict : Verdict}
    (opened : verdict ≠ .stays → verdict ≠ .clearsWait → verdict ≠ .onset →
      (s.channel n).detector.gate ≠ .closed) : Standing .run damped n (actOn n verdict s) := by
  unfold actOn
  dsimp only
  cases verdict with
  | stays => exact (finishJudgement_running r).standing
  | clearsWait =>
    exact (modDetector_running_same (f := fun c => { c.detector with rearmWait := false }) r rfl).standing
  | onset => exact (onset_running r _ false).standing
  | entersDip =>
    exact (finishJudgement_running (modDetector_running_opened
      (f := fun c => { c.detector with gate := .dip, dipTimer := 0, floor := [] }) r
      (opened nofun nofun nofun) nofun)).standing
  | flutter =>
    exact (finishJudgement_running (modDetector_running_opened
      (f := fun c => { c.detector with gate := .opened, dipTimer := 0, floor := [] }) r
      (opened nofun nofun nofun) nofun)).standing
  | surge => exact (restrike_running r (opened nofun nofun nofun) _ _).standing
  | restrike => exact (restrike_running r (opened nofun nofun nofun) _ _).standing
  | release => exact releaseGate_standing r
  | releaseOnset =>
    have released := releaseGate_standing r
    dsimp only
    split
    · next enabled =>
      exact (onset_running ⟨released.toTallied, released.sound.playing enabled⟩ _ false).standing
    · exact released

theorem judge_standing (r : Running damped n s) : Standing .run damped n (judge n s) := by
  unfold judge
  split
  · refine actOn_standing (modDetector_running_same (f := fun c => c.detector.tick) r rfl)
      fun notStays notClears notOnset closed => ?_
    rcases Channel.verdict_of_closed closed with e | e | e
    exacts [notStays e, notClears e, notOnset e]
  · exact r.standing

end

end Sys2Proof.Machine
end

section
/-! A sound string stays sound, in every mode but START, through the markers of its conditions, its line, its mute
causes and its commits (R12 to R14, R56, R85, R86, R93, R121, R143 to R146). -/

namespace Sys2Proof.Machine

section
variable {mode : Mode} {damped : Bool} {n : Str} {s : State} {c : Channel}

/-! ## A crossing path that is clear -/

theorem Lane.clear_iff (l : Lane) : l = l.clearCrossing ↔ l.filter1 = 0 ∧ l.filter2 = 0 ∧ l.arm = .disarmed
    ∧ l.below = 0 ∧ l.above = 0 ∧ l.transit = none := by
  cases l
  simp [clearCrossing]

/-- A lane with another's crossing path is clear where that is. -/
theorem Lane.clear_of_path {l m : Lane} (clear : l = l.clearCrossing)
    (path : (m.filter1, m.filter2, m.arm, m.below, m.above, m.transit)
      = (l.filter1, l.filter2, l.arm, l.below, l.above, l.transit)) : m = m.clearCrossing := by
  simp only [Prod.mk.injEq] at path
  obtain ⟨filter1, filter2, arm, below, above, transit⟩ := path
  rw [clear_iff, filter1, filter2, arm, below, above, transit]
  exact l.clear_iff.mp clear

/-! ## Blocks that the voice does not look at -/

theorem Channel.Sound.setLane (h : c.Sound mode damped) {l : Lane}
    (crossing : c.lane = c.lane.clearCrossing → l = l.clearCrossing)
    (counts : c.active.enabled = false → l.clipQuiet = 0 ∧ l.openHold = 0 ∧ l.openRelease = 0) :
    ({ c with lane := l } : Channel).Sound mode damped where
  lawful := ⟨h.lawful.voice, h.lawful.gate, h.lawful.line,
    ⟨h.lawful.reporter.output, h.lawful.reporter.lastReported, h.lawful.reporter.schedule⟩, h.lawful.bleed,
    h.lawful.openMute, fun disabled =>
      let d := h.lawful.disabled disabled
      ⟨d.voice, d.detector, d.capture, counts disabled, crossing d.crossing, d.markers, d.line⟩⟩
  damp := h.damp
  pending := h.pending
  doze dozes :=
    let d := h.doze dozes
    ⟨d.voice, d.detector, d.capture, crossing d.crossing, d.line⟩

theorem Channel.Sound.setLine (h : c.Sound mode damped) {g : GateLine}
    (line : ({ c with gateLine := g } : Channel).lineLawful)
    (low : c.gateLine.high = false ∧ c.gateLine.drop = none → g.high = false ∧ g.drop = none) :
    ({ c with gateLine := g } : Channel).Sound mode damped where
  lawful := ⟨h.lawful.voice, h.lawful.gate, line,
    ⟨h.lawful.reporter.output, h.lawful.reporter.lastReported, h.lawful.reporter.schedule⟩, h.lawful.bleed,
    h.lawful.openMute, fun disabled =>
      let d := h.lawful.disabled disabled
      ⟨d.voice, d.detector, d.capture, d.counts, d.crossing, d.markers, low d.line⟩⟩
  damp := h.damp
  pending := h.pending
  doze dozes :=
    let d := h.doze dozes
    ⟨d.voice, d.detector, d.capture, d.crossing, low d.line⟩

/-- The markers of a condition changed, OPEN's active marker not. -/
theorem Channel.Sound.setMarks (h : c.Sound mode damped) {clip openMarks : Markers}
    (active : openMarks.active = c.openMarks.active)
    (clear : c.active.enabled = false → clip = .clear ∧ openMarks = .clear) :
    ({ c with clip := clip, openMarks := openMarks } : Channel).Sound mode damped where
  lawful := ⟨h.lawful.voice, h.lawful.gate, h.lawful.line,
    ⟨h.lawful.reporter.output, h.lawful.reporter.lastReported, h.lawful.reporter.schedule⟩, h.lawful.bleed,
    h.lawful.openMute.trans active.symm, fun disabled =>
      let d := h.lawful.disabled disabled
      ⟨d.voice, d.detector, d.capture, d.counts, d.crossing, clear disabled, d.line⟩⟩
  damp := h.damp
  pending := h.pending
  doze dozes :=
    let d := h.doze dozes
    ⟨d.voice, d.detector, d.capture, d.crossing, d.line⟩

/-- An enabled string's CLIP markers may be any. -/
theorem Channel.Sound.setClip (h : c.Sound mode damped) (enabled : c.active.enabled = true) (clip : Markers) :
    (c.setMarkers .clip clip).Sound mode damped :=
  h.setMarks (clip := clip) rfl fun disabled => absurd (enabled.symm.trans disabled) nofun

theorem Channel.Sound.clearEndMark (h : c.Sound mode damped) (k : StringKind) :
    (c.setMarkers k { c.markers k with endMark := false }).Sound mode damped := by
  have clear (disabled : c.active.enabled = false) : c.clip = .clear ∧ c.openMarks = .clear :=
    (h.lawful.disabled disabled).markers
  cases k with
  | clip =>
    exact h.setMarks (clip := { c.clip with endMark := false }) rfl
      fun disabled => ⟨by rw [(clear disabled).1]; rfl, (clear disabled).2⟩
  | openKind =>
    exact h.setMarks (openMarks := { c.openMarks with endMark := false }) rfl
      fun disabled => ⟨(clear disabled).1, by rw [(clear disabled).2]; rfl⟩

theorem Markers.cleared_active (m : Markers) : m.cleared.active = m.active := by
  unfold cleared
  split <;> rfl

theorem Channel.Sound.clearNamed (h : c.Sound mode damped) (kinds : KindSet) :
    (c.clearNamed kinds).Sound mode damped := by
  refine h.setMarks ?_ fun disabled => ?_
  · split
    · exact Markers.cleared_active _
    · rfl
  · obtain ⟨clip, openMarks⟩ := (h.lawful.disabled disabled).markers
    rw [clip, openMarks]
    exact ⟨ite_self _, ite_self _⟩

/-- A string whose CLIP is active is enabled (R12, R159). -/
theorem Channel.Lawful.enabled_of_clip (l : c.Lawful) (h : c.clip.active = true) : c.active.enabled = true := by
  rw [← Bool.not_eq_false]
  intro disabled
  rw [(l.disabled disabled).markers.1] at h
  cases h

/-! ## Standing strings -/

theorem Standing.mod {f : Channel → Channel} (h : Standing mode damped n s)
    (tally : (s.channel n).voice.SameTally (f (s.channel n)).voice)
    (sound : (f (s.channel n)).Sound mode damped) : Standing mode damped n (s.mod n f) :=
  ⟨h.toTallied.mod tally, by rw [State.channel_mod_self]; exact sound⟩

/-- Outside START an operation keeps a string standing if it does so while the string plays, and leaves a string at
rest as it is. -/
theorem Standing.through {op : State → State} (h : Standing mode damped n s) (started : mode ≠ .start)
    (plays : Running damped n s → Standing .run damped n (op s))
    (rests : (s.channel n).AtRest → op s = s) : Standing mode damped n (op s) := by
  rcases h.sound.playing_or_atRest started with ⟨rfl, playing⟩ | rest
  · exact plays ⟨h.toTallied, playing⟩
  · rw [rests rest]; exact h

/-! ## A string at rest -/

theorem Channel.AtRest.not_sounding (rest : c.AtRest) : c.voice.state ≠ .sounding := by
  rcases rest.voice with h | h <;> rw [h] <;> nofun

theorem Channel.AtRest.not_acquiring (rest : c.AtRest) : c.voice.state ≠ .acquiring := by
  rcases rest.voice with h | h <;> rw [h] <;> nofun

theorem Channel.AtRest.not_suspect (rest : c.AtRest) : c.voice.state ≠ .suspect := by
  rcases rest.voice with h | h <;> rw [h] <;> nofun

theorem takeCrossing_rests (rest : (s.channel n).AtRest) : takeCrossing n s = s := by
  simp [takeCrossing, rest.handed]

theorem takeEstimate_rests (rest : (s.channel n).AtRest) : takeEstimate n s = s := by
  simp [takeEstimate, rest.delivered]

theorem takeCompletion_rests (rest : (s.channel n).AtRest) : takeCompletion n s = s := by
  simp [takeCompletion, rest.completion]

theorem judge_rests (rest : (s.channel n).AtRest) : judge n s = s := by simp [judge, rest.judged]

theorem bleedStep_rests (rest : (s.channel n).AtRest) : bleedStep n s = s := by
  simp [bleedStep, Channel.stepTimer, rest.not_suspect]

theorem expireAcquisition_rests (rest : (s.channel n).AtRest) : expireAcquisition n s = s := by
  simp [expireAcquisition, rest.not_acquiring]

theorem expireStall_rests (rest : (s.channel n).AtRest) : expireStall n s = s := by
  simp [expireStall, rest.not_sounding]

theorem expireLost_rests (rest : (s.channel n).AtRest) : expireLost n s = s := by
  simp [expireLost, rest.not_sounding]

theorem flushVoice_rests (rest : (s.channel n).AtRest) : flushVoice n s = s := by
  unfold flushVoice
  rcases rest.voice with h | h <;> rw [h]

theorem considerOutput_rests (rest : (s.channel n).AtRest) : considerOutput n s = s := by
  unfold considerOutput considerReport
  split
  · simp [Channel.reportable, rest.not_sounding]
  · rfl

/-! ## The reporter's event and the drop (R115, R121) -/

theorem takeBoundary_standing (h : Standing mode damped n s) (started : mode ≠ .start) :
    Standing mode damped n (takeBoundary n s) := by
  unfold takeBoundary
  split
  · have slewed : Standing mode damped n (s.mod n fun c =>
        { c with reporter := { c.slewed.reporter with boundaryDue := false } }) :=
      h.mod (.refl _) (h.sound.setReporter
        (h.sound.lawful.reporter.congr (Channel.steppedOutput_isSome _) rfl rfl))
    exact slewed.through started (fun r => (considerOutput_running r).standing) considerOutput_rests
  · exact h

theorem expireDrop_standing (h : Standing mode damped n s) : Standing mode damped n (expireDrop n s) := by
  unfold expireDrop
  split
  · have line := h.sound.lawful.line
    refine h.mod (.refl _) ?_
    cases drop : (s.channel n).gateLine.drop with
    | none =>
      rw [Channel.compareDrop_absent drop]
      exact h.sound.setLine line id
    | some t =>
      have running : ¬ ((s.channel n).gateLine.high = false ∧ (s.channel n).gateLine.drop = none) := by
        simp [drop]
      by_cases out : (s.channel n).active.retriggerDrop ≤ t
      · rw [Channel.compareDrop_out drop out]
        refine h.sound.setLine ?_ fun low => absurd low running
        change decide _ = (_ && true)
        rw [Bool.and_true]
        rfl
      · rw [Channel.compareDrop_on drop (Nat.lt_of_not_le out)]
        exact h.sound.setLine line id
  · exact h

/-! ## Conditions (R12 to R14, R152 to R154) -/

theorem raiseCondition_ledger (ledger : Ledger s) (k : StringKind) (n : Str) : Ledger (raiseCondition k n s) := by
  have marked (t : State) (h : Ledger t) (m : Markers) : Ledger (t.mod n (.setMarkers k m)) :=
    h.mod (by cases k <;> exact .refl _)
  unfold raiseCondition
  dsimp only
  split
  · exact ledger
  · split
    · exact marked _ ledger _
    · split
      · exact marked _ ((marked _ ledger _).offerPlain fun _ _ => rfl) _
      · exact (marked _ ledger _).refuse

theorem reportEnd_ledger (ledger : Ledger s) (k : StringKind) (n : Str) : Ledger (reportEnd k n s) := by
  have marked : Ledger (s.mod n fun c => c.setMarkers k { c.markers k with endMark := false }) :=
    ledger.mod (by cases k <;> exact .refl _)
  unfold reportEnd
  dsimp only
  split
  · split
    · exact marked.offerPlain fun _ _ => rfl
    · exact marked
  · exact ledger

theorem reportEnd_standing (h : Standing mode damped n s) (k : StringKind) :
    Standing mode damped n (reportEnd k n s) :=
  ⟨h.toTallied.of_outside (reportEnd_onlyString ..).outside (reportEnd_ledger h.ledger ..), by
    rw [reportEnd_channel]; exact h.sound.clearEndMark k⟩

theorem endClip_standing (h : Standing mode damped n s) : Standing mode damped n (endClip n s) := by
  unfold endClip
  dsimp only
  split
  · next due =>
    have active : (s.channel n).clip.active = true := (Bool.and_eq_true_iff.mp due).1
    have enabled := h.sound.lawful.enabled_of_clip active
    refine reportEnd_standing ?_ .clip
    unfold clearActive
    rw [State.mod_mod]
    exact h.mod (.refl _) ((h.sound.setLane (l := { (s.channel n).lane with clipQuiet := 0 })
      (fun crossing => Lane.clear_of_path crossing rfl)
      fun disabled => absurd (enabled.symm.trans disabled) nofun).setClip enabled _)
  · exact h

/-! ## A mute cause added (R85) -/

theorem Voice.setCause_only (cause : MuteCause) (present : Bool) (v : Voice) :
    (v.setCause cause present).state = v.state ∧ (v.setCause cause present).reported = v.reported
      ∧ (v.setCause cause present).fix = v.fix ∧ (v.setCause cause present).serial = v.serial := by
  cases cause <;> exact ⟨rfl, rfl, rfl, rfl⟩

theorem Voice.setCause_tally (cause : MuteCause) (present : Bool) (v : Voice) :
    v.SameTally (v.setCause cause present) := by cases cause <;> exact ⟨rfl, rfl, fun _ => rfl⟩

theorem Voice.hasCause_setCause (cause : MuteCause) (v : Voice) : (v.setCause cause true).hasCause = true := by
  cases cause <;> simp [hasCause, setCause]

/-- A MUTED voice's mute causes changed, one remaining. -/
theorem Channel.Sound.recause (h : c.Sound mode damped) (muted : c.voice.state = .muted)
    (enabled : c.active.enabled = true) {v : Voice} (entered : v = { c.voice with
      damp := v.damp, openCause := v.openCause }) (cause : v.hasCause = true) {l : Lane}
    (crossing : c.lane = c.lane.clearCrossing → l = l.clearCrossing) {marks : Markers}
    (openMute : v.openCause = marks.active) {damped' : Bool} (damp : v.damp = damped') :
    ({ c with lane := l, voice := v, openMarks := marks } : Channel).Sound mode damped' := by
  have notSounding : c.voice.state ≠ .sounding := by simp [muted]
  obtain ⟨unreported, unfixed⟩ := h.lawful.voice.unreported notSounding
  have bare := h.lawful.voice.bare (.inr (.inr muted))
  rw [muted] at bare
  have state : v.state = .muted := by rw [entered]; exact muted
  have form : v.entering .muted = v := by
    conv_rhs => rw [entered, bare]
    rw [entered]
    rfl
  have lawful : v.Lawful := form ▸ Voice.entering_lawful (.inr (.inr rfl)) (by rw [entered]; exact unreported)
    (by rw [entered]; exact unfixed) ⟨fun _ => rfl, fun _ => cause⟩
  refine ⟨⟨lawful, ⟨fun quiet => absurd (state.symm.trans quiet) nofun, fun _ no => absurd state no⟩, ?_,
    ⟨?_, ?_, ?_⟩, ?_, openMute, fun disabled => absurd (enabled.symm.trans disabled) nofun⟩, ?_, fun _ _ quiet =>
      absurd (state.symm.trans quiet) nofun, fun dozes => ?_⟩
  · simpa only [lineLawful, state, muted] using h.lawful.line
  · simpa [state, muted] using h.lawful.reporter.output
  · simpa [state, muted] using h.lawful.reporter.lastReported
  · simpa [state, muted] using h.lawful.reporter.schedule
  · simpa [state, muted] using h.lawful.bleed
  · rw [enabled, Bool.and_true]; exact damp
  · have d := h.doze dozes
    exact ⟨.inr state, d.detector, d.capture, crossing d.crossing, d.line⟩

/-- A string that no note is reported on becomes MUTED with its first mute cause. -/
theorem Channel.mutes_sound (enabled : c.active.enabled = true) (unreported : c.voice.reported = false)
    (unfixed : c.voice.fix = false) (low : c.gateLine.high = false) (cause : MuteCause)
    (openMute : (c.voice.setCause cause true).openCause = c.openMarks.active)
    (damp : (c.voice.setCause cause true).damp = damped)
    (doze : mode = .doze → ((c.modVoice (.setCause cause true)).entering .muted).DozeForm) :
    ((c.modVoice (.setCause cause true)).entering .muted).Sound mode damped := by
  obtain ⟨-, reported, fix, -⟩ := Voice.setCause_only cause true c.voice
  have lawful := Channel.entering_lawful (c := c.modVoice (.setCause cause true)) (st := .muted) enabled
    (.inr (.inr rfl)) (reported.trans unreported) (fix.trans unfixed) low
    ⟨fun _ => rfl, fun _ => Voice.hasCause_setCause cause c.voice⟩ nofun nofun openMute
  refine ⟨lawful, ?_, fun _ _ => nofun, doze⟩
  change _ = (damped && c.active.enabled)
  rw [enabled, Bool.and_true]
  exact damp

/-- A mute cause is added to the voice of an enabled string, sound but for what the cause is to bring: the OPEN
markers may be set already, and the damp mute in force. -/
theorem addCause_standing (sound : c.Sound mode damped) (enabled : c.active.enabled = true) {marks : Markers}
    (channel : s.channel n = { c with openMarks := marks }) {damped' : Bool} (tallied : Tallied damped' s)
    (cause : MuteCause) (openMute : (c.voice.setCause cause true).openCause = marks.active)
    (damp : (c.voice.setCause cause true).damp = damped') : Standing mode damped' n (addCause cause n s) := by
  have voice : (s.channel n).voice = c.voice := by rw [channel]
  have joined : (s.channel n).voice.SameTally ((s.channel n).voice.setCause cause true) :=
    Voice.setCause_tally ..
  unfold addCause
  dsimp only
  split
  · next has =>
    rw [voice] at has
    have muted := sound.lawful.voice.muted.mp has
    refine ⟨tallied.mod joined, ?_⟩
    rw [State.channel_mod_self, channel]
    exact sound.recause (v := c.voice.setCause cause true) muted enabled (by cases cause <;> rfl)
      (Voice.hasCause_setCause ..) id openMute damp
  · have mutes (t : State) (ht : Tallied damped' t) : Tallied damped' (t.mod n fun c =>
        (c.modVoice (.setCause cause true)).entering .muted) := by
      refine ht.mod ?_
      obtain ⟨-, reported, fix, serial⟩ := Voice.setCause_only cause true (t.channel n).voice
      exact ⟨reported, fix, fun _ => serial⟩
    split
    · next sounding =>
      have lawful : (s.channel n).voice.Lawful := voice ▸ sound.lawful.voice
      refine ⟨mutes _ (tallied.of_outside (endNote_onlyString ..).outside (endNote_ledger tallied.ledger ..)), ?_⟩
      rw [State.channel_mod_self, endNote_channel lawful]
      rw [channel] at sounding ⊢
      refine Channel.mutes_sound (c := { c with
          voice := { c.voice with reported := false, fix := false }, openMarks := marks
          gateLine := { c.gateLine with
            high := false, drop := some 0, checkDue := false, fresh := s.atFrameEnd } })
        enabled rfl rfl rfl cause (by cases cause <;> exact openMute)
        (by cases cause <;> exact damp) fun dozes => ?_
      rcases (sound.doze dozes).voice with h | h <;> exact absurd (sounding.symm.trans h) nofun
    · next notSounding =>
      refine ⟨mutes _ tallied, ?_⟩
      rw [voice] at notSounding
      rw [State.channel_mod_self, channel]
      obtain ⟨unreported, unfixed⟩ := sound.lawful.voice.unreported notSounding
      refine Channel.mutes_sound (c := { c with openMarks := marks }) enabled unreported unfixed
        (sound.lawful.line.low notSounding) cause openMute damp fun dozes => ?_
      have d := sound.doze dozes
      exact ⟨.inr rfl, d.detector, d.capture, d.crossing, d.line⟩

/-- A string whose OPEN hold count runs is enabled (R13). -/
theorem Channel.Lawful.enabled_of_openHold (l : c.Lawful) (h : c.lane.openHold = 256) :
    c.active.enabled = true := by
  rw [← Bool.not_eq_false]
  intro disabled
  exact absurd ((l.disabled disabled).counts.2.1.symm.trans h) nofun

theorem openBecomesActive_standing (h : Standing mode damped n s) :
    Standing mode damped n (openBecomesActive n s) := by
  unfold openBecomesActive
  dsimp only
  split
  · next due =>
    obtain ⟨inactive, held⟩ : (s.channel n).openMarks.active = false ∧ (s.channel n).lane.openHold = 256 := by
      simpa using due
    have enabled := h.sound.lawful.enabled_of_openHold held
    have counted : Standing mode damped n (clearOpenCounts n s) := h.mod (.refl _)
      (h.sound.setLane (l := { (s.channel n).lane with openHold := 0, openRelease := 0 })
        (fun crossing => Lane.clear_of_path crossing rfl)
        fun disabled => absurd (enabled.symm.trans disabled) nofun)
    have channel : (clearOpenCounts n s).channel n = { s.channel n with
        lane := { (s.channel n).lane with openHold := 0, openRelease := 0 } } := State.channel_mod_self ..
    have raised := (raiseCondition_raised (k := .openKind) (n := n) (s := clearOpenCounts n s) (by
      rw [channel]; exact inactive)).channel
    refine addCause_standing counted.sound (by rw [channel]; exact enabled) raised
      (counted.toTallied.of_outside (raiseCondition_onlyString ..).outside
        (raiseCondition_ledger counted.ledger ..)) .openCause rfl ?_
    rw [channel]
    change (s.channel n).voice.damp = damped
    rw [h.sound.damp, enabled, Bool.and_true]
  · exact h

/-! ## A mute cause removed (R86) -/

/-- A string that no mute cause is left on becomes SILENT under an open gate. -/
theorem Channel.Ready.toSilent {d : Detector} (r : ({ c with detector := d } : Channel).Ready)
    (opened : c.detector.gate ≠ .closed) (awake : mode ≠ .doze) : (c.entering .silent).Sound mode false := by
  have causeless : c.voice.hasCause = false := by rw [Voice.hasCause, r.damp, r.openCause]; rfl
  exact ⟨entering_lawful r.enabled (.inr (.inl rfl)) r.unreported r.unfixed r.low
    ⟨fun h => absurd (causeless.symm.trans h) nofun, nofun⟩ nofun (fun _ => opened)
    (r.openCause.trans r.openMarks.symm), r.damp, fun _ _ => nofun, fun dozes => absurd dozes awake⟩

/-- A MUTED string, with its last mute cause gone and its gate CLOSED, is ready to enter QUIET. -/
theorem Channel.Sound.uncaused (h : c.Sound mode damped) (muted : c.voice.state = .muted)
    (enabled : c.active.enabled = true) {v : Voice} (reported : v.reported = c.voice.reported)
    (fix : v.fix = c.voice.fix) (damp : v.damp = false) (openCause : v.openCause = false) (l : Lane)
    {marks : Markers} (inactive : marks.active = false) {d : Detector} (closed : d.gate = .closed) :
    ({ c with lane := l, voice := v, openMarks := marks, detector := d } : Channel).Ready := by
  have notSounding : c.voice.state ≠ .sounding := by simp [muted]
  obtain ⟨unreported, unfixed⟩ := h.lawful.voice.unreported notSounding
  exact ⟨enabled, reported.trans unreported, fix.trans unfixed, h.lawful.line.low notSounding, closed, damp,
    openCause, inactive⟩

/-- The damp mute has ended, and DAMP is removed from the voice of an enabled string. -/
theorem removeDamp_standing (sound : (s.channel n).Sound mode true) (enabled : (s.channel n).active.enabled = true)
    (tallied : Tallied false s) : Standing mode false n (removeCause .damp n s) := by
  have damp : (s.channel n).voice.damp = true := by rw [sound.damp, enabled]; rfl
  have muted : (s.channel n).voice.state = .muted :=
    sound.lawful.voice.muted.mp (by rw [Voice.hasCause, damp]; rfl)
  have gone : (s.mod n (.modVoice (.setCause .damp false))).channel n
      = (s.channel n).modVoice (.setCause .damp false) := State.channel_mod_self ..
  have uncaused := tallied.mod (n := n) (f := .modVoice (.setCause .damp false))
    (Voice.setCause_tally .damp false _)
  unfold removeCause
  rw [if_pos (show (s.channel n).voice.has .damp = true from damp)]
  dsimp only
  rw [gone]
  split
  · next remains =>
    refine ⟨uncaused, ?_⟩
    rw [gone]
    exact sound.recause (v := (s.channel n).voice.setCause .damp false) muted enabled rfl remains id
      sound.lawful.openMute rfl
  · next none =>
    have noOpen : (s.channel n).voice.openCause = false := by simpa [Voice.hasCause, Voice.setCause,
      Channel.modVoice] using none
    have inactive := sound.lawful.openMute.symm.trans noOpen
    have ready {d : Detector} (closed : d.gate = .closed) :=
      sound.uncaused (v := (s.channel n).voice.setCause .damp false) muted enabled rfl rfl rfl noOpen
        (s.channel n).lane inactive closed
    split
    · next closed =>
      refine ⟨enterQuiet_tallied uncaused n, ?_⟩
      rw [enterQuiet_channel, gone, uncaused.force]
      refine (ready (d := (s.channel n).detector) closed).toQuiet fun dozes => ?_
      have d := sound.doze dozes
      exact ⟨.inl rfl, d.detector, d.capture, d.crossing, d.line⟩
    · next opened =>
      refine ⟨uncaused.mod ⟨rfl, rfl, fun _ => rfl⟩, ?_⟩
      rw [State.channel_mod_self, gone]
      exact Channel.Ready.toSilent (c := (s.channel n).modVoice (.setCause .damp false))
        (ready (d := { (s.channel n).detector with gate := .closed }) rfl) opened
        fun dozes => opened (sound.doze dozes).detector.1

/-- The string as OPEN ends (R14, R86). -/
theorem Channel.Sound.openEnded (h : c.Sound mode damped) (active : c.openMarks.active = true) :
    (c.openEnded damped).Sound mode damped := by
  have enabled := h.lawful.enabled_of_open active
  have cause : c.voice.openCause = true := h.lawful.openMute.trans active
  have muted : c.voice.state = .muted :=
    h.lawful.voice.muted.mp (by rw [Voice.hasCause, cause, Bool.or_true])
  have crossing (clear : c.lane = c.lane.clearCrossing) :
      c.openCleared.lane = c.openCleared.lane.clearCrossing := Lane.clear_of_path clear rfl
  have dampIs : c.voice.damp = damped := by rw [h.damp, enabled, Bool.and_true]
  cases damp : c.voice.damp
  · have undamped : damped = false := dampIs.symm.trans damp
    subst undamped
    have ready {d : Detector} (closed : d.gate = .closed) := h.uncaused (v := c.openCleared.voice) muted
      enabled rfl rfl damp rfl c.openCleared.lane (marks := c.openCleared.openMarks) rfl closed
    by_cases closed : c.detector.gate = .closed
    · have quiet : c.openEnded false = c.openCleared.toQuiet false := by
        unfold Channel.openEnded
        rw [if_neg (by simp [damp]), if_neg (not_not.mpr closed)]
        rfl
      rw [quiet]
      refine (ready (d := c.detector) closed).toQuiet fun dozes => ?_
      have d := h.doze dozes
      exact ⟨.inl rfl, d.detector, d.capture, crossing d.crossing, d.line⟩
    · rw [openEnded_opened damp closed]
      exact (ready (d := { c.detector with gate := .closed }) rfl).toSilent closed
        fun dozes => closed (h.doze dozes).detector.1
  · rw [openEnded_damped damp]
    exact h.recause (v := c.openCleared.voice) muted enabled rfl
      (by rw [openCleared_hasCause]; exact damp) crossing rfl dampIs

theorem openBecomesInactive_standing (h : Standing mode damped n s) :
    Standing mode damped n (openBecomesInactive n s) := by
  by_cases due : (s.channel n).openMarks.active = true ∧ (s.channel n).lane.openRelease = 256
  · obtain ⟨active, released⟩ := due
    rw [openBecomesInactive_of_due h.sound.lawful active released, h.force]
    refine reportEnd_standing (h.mod ?_ (h.sound.openEnded active)) .openKind
    unfold Channel.openEnded
    split
    · exact ⟨rfl, rfl, fun _ => rfl⟩
    · split
      · exact ⟨rfl, rfl, fun _ => rfl⟩
      · split
        · obtain ⟨reported, fix, serial⟩ :=
            Channel.commit_tally damped ((s.channel n).openCleared.entering .quiet)
          exact ⟨reported, fix, serial⟩
        · exact ⟨rfl, rfl, fun _ => rfl⟩
  · have same : openBecomesInactive n s = s := by
      unfold openBecomesInactive
      exact if_neg (by simpa using due)
    rw [same]
    exact h

end

end Sys2Proof.Machine
end

section
/-! A sound string stays sound through the commits of its profile: staged in QUIET, forced by a COMMIT, or made as
its voice enters QUIET (R56, R93, R143 to R146). -/

namespace Sys2Proof.Machine

section
variable {mode : Mode} {damped : Bool} {n : Str} {s : State} {c : Channel}

/-! ## A commit under a voice that is QUIET or MUTED -/

/-- A voice that is QUIET already holds what one that enters QUIET does. -/
theorem Channel.Lawful.entering_quiet (l : c.Lawful) (quiet : c.voice.state = .quiet) :
    (c.entering .quiet).Lawful := by
  have bare : c.voice = c.voice.entering .quiet := quiet ▸ l.voice.bare (.inl quiet)
  have notSounding : c.voice.state ≠ .sounding := by simp [quiet]
  have voice : (c.entering .quiet).voice = c.voice := bare.symm
  refine ⟨?_, ?_, ?_, ⟨?_, ?_, ?_⟩, ?_, ?_, fun disabled => ?_⟩
  · rw [voice]; exact l.voice
  · exact ⟨fun _ => l.gate.1 quiet, fun notQuiet => absurd rfl notQuiet⟩
  · exact l.line.low notSounding
  · simp [entering, Reporter.absent, Voice.entering]
  · simp [entering, Reporter.absent, Voice.entering]
  · simp [entering, Reporter.absent, Voice.entering]
  · simp [entering, Bleed.absent, Voice.entering]
  · rw [voice]; exact l.openMute
  · have d := l.disabled disabled
    refine ⟨?_, d.detector, d.capture, d.counts, d.crossing, d.markers, d.line⟩
    rw [voice]; exact d.voice

/-- A sound string whose voice counts as entering QUIET from QUIET. -/
theorem Channel.Lawful.toQuiet (l : c.Lawful) (quiet : c.voice.state = .quiet)
    (damp : c.voice.damp = (damped && c.active.enabled)) (doze : mode = .doze → c.DozeForm) :
    (c.toQuiet damped).Sound mode damped := by
  have lawful := l.entering_quiet quiet
  have dozes (h : mode = .doze) : (c.entering .quiet).DozeForm :=
    let d := doze h
    ⟨.inl rfl, d.detector, d.capture, d.crossing, d.line⟩
  unfold Channel.toQuiet
  split
  · exact commit_sound lawful damp dozes (.inl rfl) fun _ => l.gate.1 quiet
  · next kept => exact ⟨lawful, damp, fun _ pending => absurd pending kept, dozes⟩

/-- Whatever a commit makes of a voice that is QUIET or MUTED, it is QUIET or MUTED. -/
theorem Channel.commit_calm (calm : c.voice.state = .quiet ∨ c.voice.state = .muted) (damped : Bool) :
    (c.commit damped).voice.state = .quiet ∨ (c.commit damped).voice.state = .muted := by
  unfold commit
  dsimp only
  split
  · split
    · exact .inr rfl
    · exact calm
  · exact .inl rfl

theorem Channel.toQuiet_calm (c : Channel) (damped : Bool) :
    (c.toQuiet damped).voice.state = .quiet ∨ (c.toQuiet damped).voice.state = .muted := by
  unfold toQuiet
  split
  · exact commit_calm (.inl rfl) damped
  · exact .inl rfl

/-! ## A staged profile (R143) -/

/-- The string with a profile staged. -/
def Channel.staging (p : Profile) (c : Channel) : Channel := { c with staged := p, pendingFlag := true }

theorem Channel.Lawful.staging (l : c.Lawful) (p : Profile) : (c.staging p).Lawful :=
  ⟨l.voice, l.gate, l.line, ⟨l.reporter.output, l.reporter.lastReported, l.reporter.schedule⟩, l.bleed,
    l.openMute, fun disabled =>
      let d := l.disabled disabled
      ⟨d.voice, d.detector, d.capture, d.counts, d.crossing, d.markers, d.line⟩⟩

theorem Channel.DozeForm.staging (d : c.DozeForm) (p : Profile) : (c.staging p).DozeForm :=
  ⟨d.voice, d.detector, d.capture, d.crossing, d.line⟩

theorem stage_standing (h : Standing mode damped n s) (notQuiet : (s.channel n).voice.state ≠ .quiet)
    (p : Profile) : Standing mode damped n (stage n p s) :=
  h.mod (f := Channel.staging p) (.refl _) ⟨h.sound.lawful.staging p, h.sound.damp, fun _ _ => notQuiet,
    fun dozes => (h.sound.doze dozes).staging p⟩

theorem commitProfile_stage_standing (h : Standing mode damped n s)
    (quiet : (s.channel n).voice.state = .quiet) (p : Profile) :
    Standing mode damped n (commitProfile n (stage n p s)) := by
  have committed : commitProfile n (stage n p s)
      = s.mod n fun c => (c.staging p).commit s.mute.inForce := State.mod_mod ..
  rw [committed, h.force]
  exact h.mod (Channel.commit_tally damped ((s.channel n).staging p))
    (Channel.commit_sound (h.sound.lawful.staging p) h.sound.damp (fun dozes => (h.sound.doze dozes).staging p)
      (.inl quiet) fun _ => h.sound.lawful.gate.1 quiet)

/-! ## A forced commit (R56, R93) -/

/-- The string with its gate forced CLOSED by a COMMIT. -/
def Channel.closeGate (c : Channel) : Channel :=
  { c with detector := { c.detector.quieted with gate := .closed, rearmWait := c.active.enabled } }

/-- The string with its gate CLOSED. -/
def Channel.gateClosed (c : Channel) : Channel := { c with detector := { c.detector with gate := .closed } }

theorem forceClosed_eq (n : Str) (s : State) : forceClosed n s = s.mod n Channel.closeGate := rfl

/-- The gate may close before the commit or after it. -/
theorem Channel.commit_closeGate (c : Channel) (damped : Bool) :
    (c.commit damped).closeGate = (c.gateClosed.commit damped).closeGate := by
  unfold commit
  dsimp only
  cases enables : c.staged.enabled
  · simp [closeGate, gateClosed, entering, Detector.commit, Detector.quieted, Detector.idleTracker, enables]
  · cases was : c.active.enabled <;> cases damped <;>
      simp [closeGate, gateClosed, entering, Detector.commit, Detector.quieted, Detector.idleTracker, enables, was]

theorem Channel.toQuiet_closeGate (c : Channel) (damped : Bool) :
    (c.toQuiet damped).closeGate = (c.gateClosed.toQuiet damped).closeGate := by
  unfold toQuiet
  change (if c.pendingFlag then _ else _ : Channel).closeGate = (if c.pendingFlag then _ else _ : Channel).closeGate
  cases c.pendingFlag
  · rfl
  · exact commit_closeGate (c.entering .quiet) damped

theorem Channel.Sound.closeGate (h : c.Sound mode damped)
    (calm : c.voice.state = .quiet ∨ c.voice.state = .muted) : c.closeGate.Sound mode damped where
  lawful := ⟨h.lawful.voice, ⟨fun _ => rfl, fun notQuiet notMuted => absurd (calm.resolve_left notQuiet) notMuted⟩,
    h.lawful.line, ⟨h.lawful.reporter.output, h.lawful.reporter.lastReported, h.lawful.reporter.schedule⟩,
    h.lawful.bleed, h.lawful.openMute, fun disabled =>
      let d := h.lawful.disabled disabled
      ⟨d.voice, ⟨disabled, d.detector.2.1, rfl⟩, d.capture, d.counts, d.crossing, d.markers, d.line⟩⟩
  damp := h.damp
  pending := h.pending
  doze dozes :=
    let d := h.doze dozes
    ⟨d.voice, ⟨rfl, d.detector.2.1, rfl⟩, d.capture, d.crossing, d.line⟩

/-- A voice that enters QUIET under a gate forced CLOSED. -/
theorem forceClosed_enterQuiet (h : Tallied damped s)
    (quiet : ((s.channel n).gateClosed.toQuiet damped).Sound mode damped) :
    Standing mode damped n (forceClosed n (enterQuiet n s)) := by
  rw [forceClosed_eq]
  refine ⟨(enterQuiet_tallied h n).mod (.refl _), ?_⟩
  rw [State.channel_mod_self, enterQuiet_channel, h.force, Channel.toQuiet_closeGate]
  exact quiet.closeGate (Channel.toQuiet_calm ..)

/-- A forced commit once the voice has its velocity: each state of the voice. -/
theorem forceCommit_standing (h : Standing mode damped n s) (started : mode ≠ .start) :
    Standing mode damped n (forceCommit n s) := by
  have judged : Standing mode damped n (takeCompletion n s) :=
    h.through started (fun r => (takeCompletion_running r).standing) takeCompletion_rests
  unfold forceCommit
  dsimp only
  generalize takeCompletion n s = t at judged
  have calm (notQuiet : (t.channel n).voice.state ≠ .quiet) (notMuted : (t.channel n).voice.state ≠ .muted)
      (notSounding : (t.channel n).voice.state ≠ .sounding) :
      Standing mode damped n (forceClosed n (enterQuiet n t)) := by
    rcases judged.sound.playing_or_atRest started with ⟨rfl, playing⟩ | rest
    · cases playing.undamped notMuted
      exact forceClosed_enterQuiet judged.toTallied ((playing.ready (playing.voice.unreported notSounding).1
        (playing.line.low notSounding) notMuted rfl).toQuiet nofun)
    · exact absurd (rest.voice.resolve_left notQuiet) notMuted
  split
  · next sounding =>
    rcases judged.sound.playing_or_atRest started with ⟨rfl, playing⟩ | rest
    · have notMuted : (t.channel n).voice.state ≠ .muted := by simp [sounding]
      cases playing.undamped notMuted
      refine forceClosed_enterQuiet (judged.toTallied.of_outside (endNote_onlyString ..).outside
        (endNote_ledger judged.ledger ..)) ?_
      rw [endNote_channel playing.voice]
      exact ((playing.unreport.lower t.atFrameEnd).ready rfl rfl notMuted rfl).toQuiet nofun
    · exact absurd sounding rest.not_sounding
  · next quiet =>
    have closed : (t.channel n).gateClosed = t.channel n := by
      rw [Channel.gateClosed, ← judged.sound.lawful.gate.1 quiet]
    refine forceClosed_enterQuiet judged.toTallied ?_
    rw [closed]
    exact judged.sound.lawful.toQuiet quiet judged.sound.damp judged.sound.doze
  · next suspect => exact calm (by simp [suspect]) (by simp [suspect]) (by simp [suspect])
  · next acquiring => exact calm (by simp [acquiring]) (by simp [acquiring]) (by simp [acquiring])
  · next silent => exact calm (by simp [silent]) (by simp [silent]) (by simp [silent])
  · next muted =>
    have l := judged.sound.lawful
    have lawful : (t.channel n).gateClosed.Lawful :=
      ⟨l.voice, ⟨fun quiet => absurd (muted.symm.trans quiet) nofun, fun _ no => absurd muted no⟩, l.line,
        ⟨l.reporter.output, l.reporter.lastReported, l.reporter.schedule⟩, l.bleed, l.openMute, fun disabled =>
          let d := l.disabled disabled
          ⟨d.voice, d.detector, d.capture, d.counts, d.crossing, d.markers, d.line⟩⟩
    have form (dozes : mode = .doze) : (t.channel n).gateClosed.DozeForm :=
      let d := judged.sound.doze dozes
      ⟨d.voice, ⟨rfl, d.detector.2.1, d.detector.2.2⟩, d.capture, d.crossing, d.line⟩
    rw [forceClosed_eq, commitProfile]
    refine ⟨(judged.toTallied.mod (Channel.commit_tally _ _)).mod (.refl _), ?_⟩
    rw [State.channel_mod_self, State.channel_mod_self, judged.force,
      Channel.commit_closeGate]
    exact (Channel.commit_sound lawful judged.sound.damp form (.inr muted) fun _ => rfl).closeGate
      (Channel.commit_calm (c := (t.channel n).gateClosed) (.inr muted) damped)

end

end Sys2Proof.Machine
end

section
/-! What every step keeps of a sound state beside its settings, its capture units and its conditions: the laws of
the shared registers, of the queue, of every string in its mode, and of START (R1, R61, R63, R89, R127, R144, R163,
R173, R176). The steps that reach one string, the link and the resets. -/

namespace Sys2Proof.Machine

/-! ## A steady state -/

/-- The table of R89: when the damp mute is in force. -/
structure Mute.Obeys (dampMode : DampMode) (m : Mute) : Prop where
  off : dampMode = .off → m.inForce = false ∧ m.latch = false
  follow : dampMode = .follow → m.inForce = m.debounced ∧ m.latch = false
  latched : dampMode = .latch → m.inForce = m.latch

/-- The laws of the registers that no string owns. -/
structure Shared (s : State) : Prop where
  globals : s.globals.Valid
  timebase : TimebaseLaw s
  mute : s.mute.Obeys s.globals.dampMode
  idle : s.modes.mode = .doze → s.modes.idleDue = false
  link : LinkLaw s
  frames : FrameLaw s

/-- The shared registers, the ledger, every string in its mode, and START. -/
structure Steady (s : State) : Prop where
  shared : Shared s
  ledger : Ledger s
  sound : ∀ n, (s.channel n).Sound s.modes.mode s.mute.inForce
  start : StartLaw s

theorem Invariant.steady {s : State} (i : Invariant s) : Steady s where
  shared := ⟨i.settings.globals, i.timebase, ⟨i.damp.off, i.damp.follow, i.damp.latched⟩,
    fun dozes => (i.doze dozes).1, i.link, i.frames⟩
  ledger := ⟨i.queue, i.backlog, i.noteOrder⟩
  sound n := ⟨i.channels n, i.damp.cause n, fun started => i.pending started n, fun dozes => (i.doze dozes).2 n⟩
  start := i.start

/-- The link's law looks at the link and at the restart that is due. -/
theorem LinkLaw.congr {s t : State} (h : LinkLaw s) (link : t.link = s.link)
    (restart : t.modes.restart = s.modes.restart) : LinkLaw t := by
  constructor
  all_goals rw [link]
  exacts [h.hunt, h.length, h.body, h.check, h.timer, h.buffer, by rw [restart]; exact h.restartReply]

theorem Shared.of_beyond {s t : State} (h : Shared s) (beyond : Beyond s t)
    (mute : t.mute.Obeys s.globals.dampMode) (idle : t.modes.mode = .doze → t.modes.idleDue = false) : Shared t where
  globals := by rw [beyond.globals]; exact h.globals
  timebase := by rw [TimebaseLaw, beyond.timebase]; exact h.timebase
  mute := by rw [beyond.globals]; exact mute
  idle := idle
  link := h.link.congr beyond.link beyond.restart
  frames := by rw [FrameLaw, beyond.frameSamples, beyond.settle]; exact h.frames

theorem Shared.of_outside {s t : State} (h : Shared s) (outside : Outside s t) : Shared t :=
  h.of_beyond outside.beyond (by rw [outside.mute]; exact h.mute) (by rw [outside.modes]; exact h.idle)

/-- Nothing of a steady state but registers no string owns has changed. -/
theorem Steady.of_same {s t : State} (h : Steady s) (shared : Shared t) (channels : t.channels = s.channels)
    (records : t.queue.records = s.queue.records) (reserved : t.queue.reserved = s.queue.reserved)
    (backlog : t.backlog.active = s.backlog.active) (water : t.globals.highWater = s.globals.highWater)
    (mode : t.modes.mode = s.modes.mode) (force : t.mute.inForce = s.mute.inForce)
    (start : StartForm s → StartForm t) : Steady t := by
  have channel (n : Str) : t.channel n = s.channel n := by
    rw [← State.get_channels, channels, State.get_channels]
  refine ⟨shared, h.ledger.of_strings (fun n => by rw [channel]; exact .refl _) records reserved backlog water,
    fun n => ?_, fun starts => start (h.start (mode.symm.trans starts))⟩
  rw [channel, mode, force]
  exact h.sound n

/-- The link alone has changed. -/
theorem Steady.of_link {s : State} (h : Steady s) {l : Link} (law : LinkLaw { s with link := l }) :
    Steady { s with link := l } :=
  h.of_same ⟨h.shared.globals, h.shared.timebase, h.shared.mute, h.shared.idle, law, h.shared.frames⟩ rfl rfl rfl rfl
    rfl rfl rfl fun f => ⟨f.channels, f.lock, f.timebase, f.queue, f.backlog, f.mute, f.idle⟩

/-- What the other string's registers and the shared ones are after an operation on one string. -/
theorem Steady.of_string {s t : State} {n : Str} (h : Steady s) (started : s.modes.mode ≠ .start)
    (only : OnlyString n s t) (standing : Standing s.modes.mode s.mute.inForce n t) : Steady t := by
  refine ⟨h.shared.of_outside only.outside, standing.ledger, fun m => ?_, fun starts => ?_⟩
  · rw [only.outside.modes, only.outside.mute]
    by_cases other : m = n
    · exact other ▸ standing.sound
    · rw [only.others m other]; exact h.sound m
  · exact absurd (only.outside.modes ▸ starts) started

/-- An operation on one string that keeps it standing outside START, and that START does not see. -/
theorem Steady.string {s : State} {n : Str} {op : State → State} (h : Steady s) (only : OnlyString n s (op s))
    (standing : s.modes.mode ≠ .start → Standing s.modes.mode s.mute.inForce n s →
      Standing s.modes.mode s.mute.inForce n (op s))
    (starts : StartForm s → op s = s) : Steady (op s) := by
  by_cases start : s.modes.mode = .start
  · rw [starts (h.start start)]; exact h
  · exact h.of_string start only (standing start ⟨⟨rfl, h.ledger⟩, h.sound n⟩)

theorem StartForm.atRest {s : State} (f : StartForm s) (n : Str) : (s.channel n).AtRest := by
  constructor <;> rw [f.channels n]
  exacts [.inl rfl, rfl, rfl, rfl, rfl]

/-- An operation that does nothing on a string at rest, and that keeps one that plays standing. -/
theorem Steady.unless_rests {s : State} {n : Str} {op : State → State} (h : Steady s)
    (only : OnlyString n s (op s)) (plays : ∀ {damped}, Running damped n s → Standing .run damped n (op s))
    (rests : (s.channel n).AtRest → op s = s) : Steady (op s) :=
  h.string only (fun started standing => standing.through started plays rests) fun f => rests (f.atRest n)

/-! ## A string in START -/

theorem endClip_starts {s : State} (f : StartForm s) (n : Str) : endClip n s = s := by
  have clear : (s.channel n).clip = .clear := by rw [f.channels n]; rfl
  simp [endClip, clear, Markers.clear]

theorem openBecomesActive_starts {s : State} (f : StartForm s) (n : Str) : openBecomesActive n s = s := by
  have zero : (s.channel n).lane.openHold = 0 := by rw [f.channels n]; rfl
  simp [openBecomesActive, zero]

theorem openBecomesInactive_starts {s : State} (f : StartForm s) (n : Str) : openBecomesInactive n s = s := by
  have clear : (s.channel n).openMarks = .clear := by rw [f.channels n]; rfl
  simp [openBecomesInactive, clear, Markers.clear]

theorem takeBoundary_starts {s : State} (f : StartForm s) (n : Str) : takeBoundary n s = s := by
  have none : (s.channel n).reporter.boundaryDue = false := by rw [f.channels n]; rfl
  simp [takeBoundary, none]

theorem expireDrop_starts {s : State} (f : StartForm s) (n : Str) : expireDrop n s = s := by
  have none : (s.channel n).gateLine.checkDue = false := by rw [f.channels n]; rfl
  simp [expireDrop, none]

section
variable {s : State}

/-! ## The steps that reach one string -/

theorem takeCrossing_steady (h : Steady s) (n : Str) : Steady (takeCrossing n s) :=
  h.unless_rests (takeCrossing_onlyString n s) (fun r => (takeCrossing_running r).standing) takeCrossing_rests

theorem takeEstimate_steady (h : Steady s) (n : Str) : Steady (takeEstimate n s) :=
  h.unless_rests (takeEstimate_onlyString n s) (fun r => (takeEstimate_running r).standing) takeEstimate_rests

theorem endClip_steady (h : Steady s) (n : Str) : Steady (endClip n s) :=
  h.string (endClip_onlyString n s) (fun _ => endClip_standing) fun f => endClip_starts f n

theorem openBecomesActive_steady (h : Steady s) (n : Str) : Steady (openBecomesActive n s) :=
  h.string (openBecomesActive_onlyString n s) (fun _ => openBecomesActive_standing)
    fun f => openBecomesActive_starts f n

theorem openBecomesInactive_steady (h : Steady s) (n : Str) : Steady (openBecomesInactive n s) :=
  h.string (openBecomesInactive_onlyString n s) (fun _ => openBecomesInactive_standing)
    fun f => openBecomesInactive_starts f n

theorem judge_steady (h : Steady s) (n : Str) : Steady (judge n s) :=
  h.unless_rests (judge_onlyString n s) judge_standing judge_rests

theorem takeCompletion_steady (h : Steady s) (n : Str) : Steady (takeCompletion n s) :=
  h.unless_rests (takeCompletion_onlyString n s) (fun r => (takeCompletion_running r).standing) takeCompletion_rests

theorem bleedStep_steady (h : Steady s) (n : Str) : Steady (bleedStep n s) :=
  h.unless_rests (bleedStep_onlyString n s) (fun r => (bleedStep_running r).standing) bleedStep_rests

theorem expireAcquisition_steady (h : Steady s) (n : Str) : Steady (expireAcquisition n s) :=
  h.unless_rests (expireAcquisition_onlyString n s) (fun r => (expireAcquisition_running r).standing) expireAcquisition_rests

theorem expireStall_steady (h : Steady s) (n : Str) : Steady (expireStall n s) :=
  h.unless_rests (expireStall_onlyString n s) (fun r => (expireStall_running r).standing) expireStall_rests

theorem expireLost_steady (h : Steady s) (n : Str) : Steady (expireLost n s) :=
  h.unless_rests (expireLost_onlyString n s) (fun r => (expireLost_running r).standing) expireLost_rests

theorem takeBoundary_steady (h : Steady s) (n : Str) : Steady (takeBoundary n s) :=
  h.string (takeBoundary_onlyString n s) (fun started standing => takeBoundary_standing standing started)
    fun f => takeBoundary_starts f n

theorem expireDrop_steady (h : Steady s) (n : Str) : Steady (expireDrop n s) :=
  h.string (expireDrop_onlyString n s) (fun _ => expireDrop_standing) fun f => expireDrop_starts f n

/-! ## The commands that reach one string -/

theorem Steady.standing (h : Steady s) (n : Str) : Standing s.modes.mode s.mute.inForce n s :=
  ⟨⟨rfl, h.ledger⟩, h.sound n⟩

theorem stage_steady (h : Steady s) (started : s.modes.mode ≠ .start) (n : Str) (p : Profile)
    (notQuiet : (s.channel n).voice.state ≠ .quiet) : Steady (stage n p s) :=
  h.of_string started (mod_onlyString ..) (stage_standing (h.standing n) notQuiet p)

theorem commitProfile_stage_steady (h : Steady s) (started : s.modes.mode ≠ .start) (n : Str) (p : Profile)
    (quiet : (s.channel n).voice.state = .quiet) : Steady (commitProfile n (stage n p s)) :=
  h.of_string started ((mod_onlyString ..).trans (commitProfile_onlyString ..))
    (commitProfile_stage_standing (h.standing n) quiet p)

theorem forceCommit_steady (h : Steady s) (started : s.modes.mode ≠ .start) (n : Str) : Steady (forceCommit n s) :=
  h.of_string started (forceCommit_onlyString n s) (forceCommit_standing (h.standing n) started)

theorem flushVoice_steady (h : Steady s) (started : s.modes.mode ≠ .start) (n : Str) : Steady (flushVoice n s) :=
  h.of_string started (flushVoice_onlyString n s)
    ((h.standing n).through started (fun r => (flushVoice_running r).standing) flushVoice_rests)

theorem clearMarkers_steady (h : Steady s) (started : s.modes.mode ≠ .start) (kinds : KindSet)
    (strings : List Str) : Steady (clearMarkers kinds strings s) := by
  have cleared : Steady (forStrings (fun n u => u.mod n (.clearNamed kinds)) strings s)
      ∧ (forStrings (fun n u => u.mod n (.clearNamed kinds)) strings s).modes.mode ≠ .start :=
    forStrings_induct (P := fun u => Steady u ∧ u.modes.mode ≠ .start) _ (fun n u hu =>
      ⟨hu.1.of_string hu.2 (mod_onlyString ..) ((hu.1.standing n).mod (.refl _) ((hu.1.sound n).clearNamed kinds)),
        hu.2⟩) strings s ⟨h, started⟩
  obtain ⟨steady, still⟩ := cleared
  refine steady.of_same ⟨steady.shared.globals, steady.shared.timebase, steady.shared.mute, steady.shared.idle,
    steady.shared.link.congr rfl rfl, steady.shared.frames⟩ rfl rfl rfl ?_ rfl rfl rfl fun f => ?_
  · dsimp only [clearMarkers]
    split
    · exact Markers.cleared_active _
    · rfl
  · refine ⟨f.channels, f.lock, f.timebase, f.queue, ?_, f.mute, f.idle⟩
    dsimp only [clearMarkers]
    rw [f.backlog]
    exact ite_self _

/-! ## The link (R161 to R167) -/

/-- Back in HUNT the receiver holds nothing (R163). -/
theorem LinkLaw.hunt_link {s t : State} (h : LinkLaw s) (rx : t.link.rxState = .hunt) (body : t.link.rxBody = [])
    (timer : t.link.rxTimer = 0) (buffer : t.link.buffer.length ≤ 2) (tx : t.link.tx = s.link.tx)
    (restart : t.modes.restart = s.modes.restart) : LinkLaw t where
  hunt _ := ⟨body, timer⟩
  length h := absurd (rx.symm.trans h) nofun
  body h := absurd (rx.symm.trans h) nofun
  check h := absurd (rx.symm.trans h) nofun
  timer := by omega
  buffer := buffer
  restartReply := by rw [tx, restart]; exact h.restartReply

theorem fault_linkLaw (h : LinkLaw s) : LinkLaw { s with link := s.link.fault } :=
  h.hunt_link rfl rfl rfl h.buffer rfl rfl

theorem complete_linkLaw (h : LinkLaw s) : LinkLaw { s with link := s.link.complete } := by
  unfold Link.complete
  split
  · exact h.hunt_link rfl rfl rfl h.buffer rfl rfl
  · split
    · next room => exact h.hunt_link rfl rfl rfl (by simpa using room) rfl rfl
    · exact h.hunt_link rfl rfl rfl h.buffer rfl rfl

theorem receive_linkLaw (h : LinkLaw s) (b : Byte) : LinkLaw { s with link := s.link.receive b } := by
  unfold Link.receive
  split
  · next hunt =>
    split
    · exact ⟨nofun, fun _ => (h.hunt hunt).1, nofun, nofun, Nat.zero_le _, h.buffer, h.restartReply⟩
    · exact fault_linkLaw h
  · split
    · next range =>
      obtain ⟨low, high⟩ : 1 ≤ b.toNat ∧ b.toNat ≤ 48 := by simpa using range
      exact ⟨nofun, nofun, fun _ => ⟨low, high⟩, nofun, Nat.zero_le _, h.buffer, h.restartReply⟩
    · exact fault_linkLaw h
  · next body =>
    obtain ⟨short, long⟩ := h.body body
    have held : (s.link.rxBody ++ [b]).length = s.link.rxBody.length + 1 := List.length_append
    dsimp only
    split
    · exact ⟨nofun, nofun, nofun, fun _ => ⟨by dsimp only; omega, by dsimp only; omega, long⟩, Nat.zero_le _,
        h.buffer, h.restartReply⟩
    · exact ⟨nofun, nofun, fun _ => ⟨by dsimp only; omega, long⟩, nofun, Nat.zero_le _, h.buffer,
        h.restartReply⟩
  · split
    · exact complete_linkLaw h
    · exact fault_linkLaw h

theorem receiveByte_steady (h : Steady s) (b : Byte) (stopHigh : Bool) : Steady (receiveByte b stopHigh s) := by
  have received := h.of_link (receive_linkLaw h.shared.link b)
  unfold receiveByte
  split
  · dsimp only
    split
    · exact received.of_same ⟨h.shared.globals, h.shared.timebase, h.shared.mute, fun _ => rfl,
        received.shared.link.congr rfl rfl, h.shared.frames⟩ rfl rfl rfl rfl rfl rfl rfl
        fun f => ⟨f.channels, f.lock, f.timebase, f.queue, f.backlog, f.mute, rfl, rfl, f.idle.2.2⟩
    · exact received
  · exact h.of_link (fault_linkLaw h.shared.link)

theorem byteTimeout_steady (h : Steady s) : Steady (byteTimeout s) := by
  unfold byteTimeout
  split
  · exact h.of_link (fault_linkLaw h.shared.link)
  · exact h

/-- A frame given to the transmitter, or none: the receiver stands, and a RESTART's reply is sent only while the
restart is due (R175). -/
theorem LinkLaw.transmit {s t : State} (h : LinkLaw s) (rxState : t.link.rxState = s.link.rxState)
    (rxLength : t.link.rxLength = s.link.rxLength) (rxBody : t.link.rxBody = s.link.rxBody)
    (rxTimer : t.link.rxTimer = s.link.rxTimer) (buffer : t.link.buffer.length ≤ 2)
    (reply : ∀ bytes, t.link.tx = .sending bytes true → t.modes.restart = .due) : LinkLaw t := by
  constructor
  · rw [rxState, rxBody, rxTimer]; exact h.hunt
  · rw [rxState, rxBody]; exact h.length
  · rw [rxState, rxBody, rxLength]; exact h.body
  · rw [rxState, rxBody, rxLength]; exact h.check
  · rw [rxTimer]; exact h.timer
  · exact buffer
  · exact reply

theorem reply_steady (h : Steady s) (kind : Byte) (outcome : ReplyOutcome) (data : List Byte) :
    Steady (reply kind outcome data s) :=
  h.of_link (h.shared.link.transmit rfl rfl rfl rfl h.shared.link.buffer h.shared.link.restartReply)

theorem taken_steady (h : Steady s) {f : Frame} {rest : List Frame} (buffer : s.link.buffer = f :: rest) :
    Steady { s with link := { s.link with buffer := rest } } := by
  have bound := h.shared.link.buffer
  rw [buffer, List.length_cons] at bound
  exact h.of_link (h.shared.link.transmit rfl rfl rfl rfl (Nat.le_of_succ_le bound) h.shared.link.restartReply)

/-- The head record leaves the queue, which reads on as before it (R63, R135). -/
theorem Ledger.headTaken {s : State} (ledger : Ledger s) {head : Record} {rest : List Record}
    (records : s.queue.records = head :: rest) (l : Link) :
    Ledger (updateBacklog { s with queue := { s.queue with records := rest }, link := l }) := by
  refine .compared ⟨?_, ledger.queue.account⟩ fun n => ?_
  · have capacity := ledger.queue.capacity
    rw [Queue.commitment, records, List.length_cons] at capacity
    change rest.length + s.queue.reserved ≤ queueCapacity
    omega
  · obtain ⟨opened, read⟩ := (noteOrderLaw_iff s).mp ledger.order n
    rw [records, ← List.singleton_append, readNotes_append] at read
    cases first : readNotes n [head] opened with
    | none => rw [first] at read; cases read
    | some after => rw [first] at read; exact ⟨after, read⟩

theorem transmitTake_steady (h : Steady s) : Steady (transmitTake s) := by
  unfold transmitTake
  split
  · split
    · refine h.of_link (h.shared.link.transmit rfl rfl rfl rfl h.shared.link.buffer fun bytes sends => ?_)
      simp only [Transmitter.sending.injEq] at sends
      simpa using sends.2
    · next head rest _ records =>
      split
      · have outside := (updateBacklog_queueOnly { s with
          queue := { s.queue with records := rest }
          link := { s.link with tx := .sending head.bytes false } }).outside
        have shared : Shared { s with
            queue := { s.queue with records := rest }
            link := { s.link with tx := .sending head.bytes false } } :=
          ⟨h.shared.globals, h.shared.timebase, h.shared.mute, h.shared.idle,
            h.shared.link.transmit rfl rfl rfl rfl h.shared.link.buffer nofun, h.shared.frames⟩
        refine ⟨shared.of_outside outside, h.ledger.headTaken records _, fun n => ?_, fun starts => ?_⟩
        · rw [outside.modes, outside.mute, updateBacklog_channel]
          exact h.sound n
        · rw [outside.modes] at starts
          rw [(h.start starts).queue] at records
          cases records
      · exact h
    · exact h
  · exact h

theorem frameSent_steady (h : Steady s) : Steady (frameSent s) := by
  unfold frameSent
  split
  · exact h
  · next bytes restartReply sends =>
    refine h.of_same ⟨h.shared.globals, h.shared.timebase, h.shared.mute, h.shared.idle,
      h.shared.link.transmit rfl rfl rfl rfl h.shared.link.buffer nofun, h.shared.frames⟩ rfl rfl rfl rfl rfl rfl rfl
      fun f => ⟨f.channels, f.lock, f.timebase, f.queue, f.backlog, f.mute, ?_⟩
    obtain ⟨idle, idleDue, wakeDue, restart⟩ := f.idle
    refine ⟨idle, idleDue, wakeDue, ?_⟩
    cases restartReply
    · exact restart
    · exact absurd (restart.symm.trans (h.shared.link.restartReply bytes sends)) nofun

/-! ## Registers of the controller (R134, R150, R170, R174, R175) -/

/-- Only the controller's causes, its restart, LOCK, the link's flags, the event gate or DROPPED have changed. -/
theorem Steady.of_registers {t : State} (h : Steady s) (link : LinkLaw t) (globals : t.globals = s.globals)
    (timebase : t.timebase = s.timebase) (mute : t.mute = s.mute) (channels : t.channels = s.channels)
    (records : t.queue.records = s.queue.records) (reserved : t.queue.reserved = s.queue.reserved)
    (backlog : t.backlog = s.backlog) (mode : t.modes.mode = s.modes.mode)
    (idleDue : t.modes.idleDue = s.modes.idleDue) (frameSamples : t.frameSamples = s.frameSamples)
    (settle : t.modes.settle = s.modes.settle) (start : StartForm s → StartForm t) : Steady t :=
  h.of_same
    { globals := by rw [globals]; exact h.shared.globals
      timebase := by rw [TimebaseLaw, timebase]; exact h.shared.timebase
      mute := by rw [mute, globals]; exact h.shared.mute
      idle := by rw [mode, idleDue]; exact h.shared.idle
      link := link
      frames := by rw [FrameLaw, frameSamples, settle]; exact h.shared.frames }
    channels records reserved (by rw [backlog]) (by rw [globals]) mode (by rw [mute]) start

theorem pending_steady (h : Steady s) (rest : List Instr) : Steady { s with pending := rest } :=
  h.of_registers (h.shared.link.congr rfl rfl) rfl rfl rfl rfl rfl rfl rfl rfl rfl rfl rfl
    fun f => ⟨f.channels, f.lock, f.timebase, f.queue, f.backlog, f.mute, f.idle⟩

theorem causesCleared_steady (h : Steady s) :
    Steady { s with modes := { s.modes with causes := ⟨false, false, false, false⟩ } } :=
  h.of_registers (h.shared.link.congr rfl rfl) rfl rfl rfl rfl rfl rfl rfl rfl rfl rfl rfl
    fun f => ⟨f.channels, f.lock, f.timebase, f.queue, f.backlog, f.mute, f.idle⟩

theorem flagsCleared_steady (h : Steady s) :
    Steady { s with queue := { s.queue with dropped := false }
                    link := { s.link with overrun := false, frameErr := false } } :=
  h.of_registers
    (h.shared.link.transmit rfl rfl rfl rfl h.shared.link.buffer h.shared.link.restartReply) rfl rfl rfl rfl rfl rfl
    rfl rfl rfl rfl rfl
    fun f => ⟨f.channels, f.lock, f.timebase, congrArg (fun q : Queue => { q with dropped := false }) f.queue,
      f.backlog, f.mute, f.idle⟩

theorem eventGate_steady (h : Steady s) (started : s.modes.mode ≠ .start) (gate : Bool) :
    Steady { s with queue := { s.queue with gateOpen := gate } } := by
  refine ⟨⟨h.shared.globals, h.shared.timebase, h.shared.mute, h.shared.idle, h.shared.link.congr rfl rfl,
    h.shared.frames⟩, h.ledger.of_strings (fun _ => .refl _) rfl rfl rfl rfl, h.sound, fun starts =>
      absurd starts started⟩

theorem locked_steady (h : Steady s) (started : s.modes.mode ≠ .start) : Steady { s with lock := true } :=
  ⟨⟨h.shared.globals, h.shared.timebase, h.shared.mute, h.shared.idle, h.shared.link.congr rfl rfl,
    h.shared.frames⟩, h.ledger.of_strings (fun _ => .refl _) rfl rfl rfl rfl, h.sound, fun starts =>
      absurd starts started⟩

theorem restartDue_steady (h : Steady s) (started : s.modes.mode ≠ .start) :
    Steady { s with modes := { s.modes with restart := .due } } :=
  ⟨⟨h.shared.globals, h.shared.timebase, h.shared.mute, h.shared.idle,
    h.shared.link.transmit rfl rfl rfl rfl h.shared.link.buffer fun _ _ => rfl, h.shared.frames⟩,
    h.ledger.of_strings (fun _ => .refl _) rfl rfl rfl rfl, h.sound, fun starts => absurd starts started⟩

theorem pinReleased_steady (h : Steady s) (straps : Straps) : Steady (pinReleased straps s) := by
  unfold pinReleased
  split
  · exact h.of_registers
      (h.shared.link.transmit rfl rfl rfl rfl h.shared.link.buffer h.shared.link.restartReply) rfl rfl rfl rfl rfl
      rfl rfl rfl rfl rfl rfl fun f => ⟨f.channels, f.lock, f.timebase, f.queue, f.backlog, f.mute, f.idle⟩
  · exact h

/-! ## Resets (R174, R175) -/

/-- A string after a reset is sound in every mode but RUN and DOZE's own laws. -/
theorem Channel.reset_sound (active staged : Profile) (pendingFlag : Bool) (lane : Int) :
    ({ Channel.reset active staged pendingFlag with
      lane := { Lane.reset with startSum := lane } } : Channel).Sound .start false := by
  have voice : (Voice.reset).Lawful :=
    Voice.entering_lawful (v := .reset) (.inl rfl) rfl rfl ⟨nofun, nofun⟩
  refine ⟨⟨voice, ⟨fun _ => rfl, fun h => absurd rfl h⟩, rfl, ⟨?_, ?_, ?_⟩, ?_, rfl, fun _ => ?_⟩, rfl, ?_, nofun⟩
  · simp [Channel.reset, Reporter.absent, Voice.reset]
  · simp [Channel.reset, Reporter.absent, Voice.reset]
  · simp [Channel.reset, Reporter.absent, Voice.reset]
  · simp [Channel.reset, Bleed.absent, Voice.reset]
  · exact ⟨⟨rfl, rfl⟩, ⟨rfl, rfl, rfl⟩, ⟨rfl, rfl, rfl⟩, ⟨rfl, rfl, rfl⟩, rfl, ⟨rfl, rfl⟩, ⟨rfl, rfl⟩⟩
  · exact fun started => absurd rfl started

/-- START of strings that hold their profiles and nothing else. -/
theorem afterReset_steady {channels : Eight Channel} {globals : Globals} (valid : globals.Valid)
    (reset : ∀ n, channels.get n
      = .reset (channels.get n).active (channels.get n).staged (channels.get n).pendingFlag)
    (causes : Causes) (straps : Straps) (s : State) : Steady (s.afterReset channels globals causes straps) := by
  have channel (n : Str) : (s.afterReset channels globals causes straps).channel n = channels.get n := rfl
  have sum (n : Str) : (channels.get n).lane.startSum = 0 := by rw [reset n]; rfl
  have form : StartForm (s.afterReset channels globals causes straps) :=
    ⟨fun n => by rw [channel, sum]; exact reset n, rfl, ⟨rfl, rfl⟩, rfl, rfl, rfl, rfl, rfl, rfl, rfl⟩
  have still (n : Str) : ((s.afterReset channels globals causes straps).channel n).voice = .reset := by
    rw [form.channels n]; rfl
  refine ⟨⟨valid, rfl, ⟨fun _ => ⟨rfl, rfl⟩, fun _ => ⟨rfl, rfl⟩, fun _ => rfl⟩, nofun,
    ⟨fun _ => ⟨rfl, rfl⟩, nofun, nofun, nofun, Nat.zero_le _, Nat.zero_le _, nofun⟩,
    ⟨Nat.zero_le _, Nat.zero_le _⟩⟩, ⟨⟨Nat.zero_le _, ?_⟩, ?_, fun n => ?_⟩, fun n => ?_, fun _ => form⟩
  · unfold State.slotsHeld
    simp only [still]
    rfl
  · exact (decide_eq_false (Nat.not_le.mpr (Nat.lt_of_lt_of_le (by decide : 0 < 8) valid.highWater.1))).symm
  · refine ⟨none, ?_⟩
    rw [still]
    rfl
  · rw [form.channels n]
    exact Channel.reset_sound ..

theorem restartReset_steady (h : Steady s) (straps : Straps) : Steady (restartReset straps s) := by
  unfold restartReset
  split
  · exact afterReset_steady h.shared.globals (fun n => by rw [Eight.get_of]; rfl) ..
  · exact h

theorem defaultGlobals_valid : defaultGlobals.Valid := ⟨by decide, by decide, by decide⟩

theorem defaulted_steady (causes : Causes) (straps : Straps) (s : State) : Steady (s.defaulted causes straps) :=
  afterReset_steady defaultGlobals_valid (fun n => by rw [Eight.get_of]; rfl) ..

theorem pinReset_steady (s : State) : Steady (pinReset s) := by
  have h := defaulted_steady { s.modes.causes with pin := true } s.link.straps s
  exact h.of_registers (h.shared.link.congr rfl rfl) rfl rfl rfl rfl rfl rfl rfl rfl rfl rfl rfl
    fun f => ⟨f.channels, f.lock, f.timebase, f.queue, f.backlog, f.mute, f.idle⟩

end

end Sys2Proof.Machine
end

section
/-! The steps that reach every string: the damp mute (R88 to R91), START's end (R173), doze entry and the wakes (R176,
R177). -/

namespace Sys2Proof.Machine

/-! ## An operation on each string -/

/-- An operation that takes one string after another from one form to another, the ledger kept. -/
theorem forStrings_each {op : Str → State → State} {before after : Channel → Prop} {damped : Bool}
    (only : ∀ n s, OnlyString n s (op n s))
    (each : ∀ n s, Tallied damped s → before (s.channel n) → Tallied damped (op n s) ∧ after ((op n s).channel n))
    {l : List Str} (nodup : l.Nodup) {s : State} (tallied : Tallied damped s)
    (all : ∀ n ∈ l, before (s.channel n)) :
    Tallied damped (forStrings op l s) ∧ (∀ n ∈ l, after ((forStrings op l s).channel n))
      ∧ ∀ n, n ∉ l → (forStrings op l s).channel n = s.channel n := by
  induction l generalizing s with
  | nil => exact ⟨tallied, nofun, fun _ _ => rfl⟩
  | cons m l ih =>
    obtain ⟨fresh, nodup⟩ := List.nodup_cons.mp nodup
    obtain ⟨first, taken⟩ := each m s tallied (all m List.mem_cons_self)
    have rest (n : Str) (mem : n ∈ l) : (op m s).channel n = s.channel n :=
      (only m s).others n fun e => fresh (e ▸ mem)
    obtain ⟨done, reached, others⟩ := ih nodup first fun n mem => by
      rw [rest n mem]; exact all n (List.mem_cons_of_mem _ mem)
    refine ⟨done, fun n mem => ?_, fun n out => ?_⟩
    · rcases List.mem_cons.mp mem with rfl | mem
      · exact (others n fresh).symm ▸ taken
      · exact reached n mem
    · exact (others n (List.not_mem_of_not_mem_cons out)).trans
        ((only m s).others n (List.ne_of_not_mem_cons out))

/-- The same for all eight. -/
theorem forStrings_all {op : Str → State → State} {before after : Channel → Prop} {damped : Bool}
    (only : ∀ n s, OnlyString n s (op n s))
    (each : ∀ n s, Tallied damped s → before (s.channel n) → Tallied damped (op n s) ∧ after ((op n s).channel n))
    {s : State} (tallied : Tallied damped s) (all : ∀ n, before (s.channel n)) :
    Tallied damped (forStrings op Str.all s) ∧ ∀ n, after ((forStrings op Str.all s).channel n) := by
  obtain ⟨done, reached, -⟩ := forStrings_each only each Str.all_nodup tallied fun n _ => all n
  exact ⟨done, fun n => reached n n.mem_all⟩

/-! ## The damp mute comes and ends (R89) -/

theorem enabled_onlyString {op : Str → State → State} (only : ∀ n s, OnlyString n s (op n s)) (n : Str) (s : State) :
    OnlyString n s (if (s.channel n).active.enabled then op n s else s) := by
  split
  · exact only n s
  · exact .refl n s

/-- A disabled string does not see the damp mute. -/
theorem Channel.Sound.of_disabled {mode : Mode} {damped : Bool} {c : Channel} (h : c.Sound mode damped)
    (disabled : c.active.enabled = false) (damped' : Bool) : c.Sound mode damped' :=
  ⟨h.lawful, by rw [h.damp, disabled, Bool.and_false, Bool.and_false], h.pending, h.doze⟩

section
variable {s : State} {mode : Mode}

theorem dampComes_strings (ledger : Ledger s) (sound : ∀ n, (s.channel n).Sound mode false) :
    Tallied true (dampComes s) ∧ ∀ n, ((dampComes s).channel n).Sound mode true := by
  have told : Ledger (offerPlain (.notice .dampOn) s) := ledger.offerPlain fun _ _ => rfl
  have inForce : Tallied true { offerPlain (.notice .dampOn) s with
      mute := { (offerPlain (.notice .dampOn) s).mute with inForce := true } } :=
    ⟨rfl, told.of_strings (fun _ => .refl _) rfl rfl rfl rfl⟩
  refine forStrings_all (before := fun c => c.Sound mode false) (enabled_onlyString (addCause_onlyString .damp))
    (fun n t tallied before => ?_) inForce
    fun n => ?_
  · split
    · next enabled =>
      have added := addCause_standing before enabled (marks := (t.channel n).openMarks) rfl tallied .damp
        before.lawful.openMute rfl
      exact ⟨added.toTallied, added.sound⟩
    · next disabled => exact ⟨tallied, before.of_disabled (Bool.eq_false_of_not_eq_true disabled) true⟩
  · exact (offerPlain_channel (.notice .dampOn) s n).symm ▸ sound n

theorem dampEnds_strings (ledger : Ledger s) (sound : ∀ n, (s.channel n).Sound mode true) :
    Tallied false (dampEnds s) ∧ ∀ n, ((dampEnds s).channel n).Sound mode false := by
  have ended : Tallied false { s with mute := { s.mute with inForce := false } } :=
    ⟨rfl, ledger.of_strings (fun _ => .refl _) rfl rfl rfl rfl⟩
  have removed := forStrings_all (before := fun c => c.Sound mode true) (after := fun c => c.Sound mode false)
    (enabled_onlyString (removeCause_onlyString .damp))
    (fun n t tallied before => by
      split
      · next enabled =>
        have standing := removeDamp_standing before enabled tallied
        exact ⟨standing.toTallied, standing.sound⟩
      · next disabled => exact ⟨tallied, before.of_disabled (Bool.eq_false_of_not_eq_true disabled) false⟩)
    ended sound
  obtain ⟨tallied, strings⟩ := removed
  refine ⟨tallied.of_outside (offerPlain_queueOnly ..).outside (tallied.ledger.offerPlain fun _ _ => rfl),
    fun n => ?_⟩
  unfold dampEnds
  rw [offerPlain_channel]
  exact strings n

theorem setDampMute_strings (ledger : Ledger s) (sound : ∀ n, (s.channel n).Sound mode s.mute.inForce)
    (wanted : Bool) : Tallied wanted (setDampMute wanted s)
      ∧ ∀ n, ((setDampMute wanted s).channel n).Sound mode wanted := by
  unfold setDampMute
  split
  · next same =>
    subst same
    exact ⟨⟨rfl, ledger⟩, sound⟩
  · next other =>
    cases wanted
    · have inForce : s.mute.inForce = true := by simpa using other
      exact dampEnds_strings ledger (inForce ▸ sound)
    · have ended : s.mute.inForce = false := by simpa using other
      exact dampComes_strings ledger (ended ▸ sound)

/-- The mute logic is left as it stands but for the damp mute itself. -/
theorem setDampMute_mute (wanted : Bool) (s : State) :
    (setDampMute wanted s).mute = { s.mute with inForce := wanted } := by
  unfold setDampMute
  split
  · next same => rw [same]
  · cases wanted
    · unfold dampEnds
      rw [if_neg Bool.false_ne_true, (offerPlain_queueOnly ..).outside.mute,
        (forEnabled_outside (fun n u => (removeCause_onlyString .damp n u).outside) _).mute]
    · unfold dampComes
      dsimp only
      rw [if_pos rfl, (forEnabled_outside (fun n u => (addCause_onlyString .damp n u).outside) _).mute,
        (offerPlain_queueOnly ..).outside.mute]

/-! ## The mute logic (R88 to R91) -/

/-- A steady state outside START, but for the table of R89. -/
structure Balanced (s : State) : Prop where
  started : s.modes.mode ≠ .start
  globals : s.globals.Valid
  timebase : TimebaseLaw s
  idle : s.modes.mode = .doze → s.modes.idleDue = false
  link : LinkLaw s
  frames : FrameLaw s
  ledger : Ledger s
  sound : ∀ n, (s.channel n).Sound s.modes.mode s.mute.inForce

theorem Steady.balanced (h : Steady s) (started : s.modes.mode ≠ .start) : Balanced s :=
  ⟨started, h.shared.globals, h.shared.timebase, h.shared.idle, h.shared.link, h.shared.frames, h.ledger, h.sound⟩

theorem Balanced.steady (h : Balanced s) (obeys : s.mute.Obeys s.globals.dampMode) : Steady s :=
  ⟨⟨h.globals, h.timebase, obeys, h.idle, h.link, h.frames⟩, h.ledger, h.sound, fun starts =>
    absurd starts h.started⟩

/-- The mute logic changed, the damp mute itself not. -/
theorem Balanced.setMute (h : Balanced s) {m : Mute} (force : m.inForce = s.mute.inForce) :
    Balanced { s with mute := m } :=
  ⟨h.started, h.globals, h.timebase, h.idle, h.link.congr rfl rfl, h.frames,
    h.ledger.of_strings (fun _ => .refl _) rfl rfl rfl rfl, fun n => force ▸ h.sound n⟩

theorem Balanced.setDampMode (h : Balanced s) (new : DampMode) :
    Balanced { s with globals := { s.globals with dampMode := new } } :=
  ⟨h.started, ⟨h.globals.dozeIdleCode, h.globals.wakeThreshold, h.globals.highWater⟩, h.timebase, h.idle,
    h.link.congr rfl rfl, h.frames, h.ledger.of_strings (fun _ => .refl _) rfl rfl rfl rfl, h.sound⟩

theorem Balanced.setDampMute (h : Balanced s) (wanted : Bool) : Balanced (setDampMute wanted s) := by
  have beyond := setDampMute_beyond wanted s
  have modes := (setDampMute_made wanted s).2
  obtain ⟨tallied, sound⟩ := setDampMute_strings h.ledger h.sound wanted
  exact
    { started := by rw [modes]; exact h.started
      globals := by rw [beyond.globals]; exact h.globals
      timebase := by rw [TimebaseLaw, beyond.timebase]; exact h.timebase
      idle := by rw [modes]; exact h.idle
      link := h.link.congr beyond.link beyond.restart
      frames := by rw [FrameLaw, beyond.frameSamples, beyond.settle]; exact h.frames
      ledger := tallied.ledger
      sound := fun n => by rw [modes, tallied.force]; exact sound n }

/-- No change of the debounced level is due in START. -/
theorem StartForm.undue (f : StartForm s) : s.mute.changeDue = false := congrArg Mute.changeDue f.mute

theorem dampAsserted_steady (h : Steady s) : Steady (dampAsserted s) := by
  unfold dampAsserted
  split
  · next due =>
    have started : s.modes.mode ≠ .start := fun starts => by simp [(h.start starts).undue] at due
    have debounced : Balanced { s with mute := { s.mute with debounced := true, changeDue := false } } :=
      (h.balanced started).setMute rfl
    have obeyed := h.shared.mute
    dsimp only
    split
    · next off =>
      exact debounced.steady ⟨obeyed.off, fun follow => absurd (off.symm.trans follow) nofun, obeyed.latched⟩
    · next follow =>
      refine (debounced.setDampMute true).steady ?_
      rw [setDampMute_mute, (setDampMute_beyond ..).globals]
      exact ⟨fun off => absurd (follow.symm.trans off) nofun, fun _ => ⟨rfl, (obeyed.follow follow).2⟩,
        fun latch => absurd (follow.symm.trans latch) nofun⟩
    · next latch =>
      refine ((debounced.setMute (m := { s.mute with
        debounced := true, changeDue := false, latch := true }) rfl).setDampMute true).steady ?_
      rw [setDampMute_mute, (setDampMute_beyond ..).globals]
      exact ⟨fun off => absurd (latch.symm.trans off) nofun, fun follow => absurd (latch.symm.trans follow) nofun,
        fun _ => rfl⟩
  · exact h

theorem dampDeasserted_steady (h : Steady s) : Steady (dampDeasserted s) := by
  unfold dampDeasserted
  split
  · next due =>
    have started : s.modes.mode ≠ .start := fun starts => by simp [(h.start starts).undue] at due
    have debounced : Balanced { s with mute := { s.mute with debounced := false, changeDue := false } } :=
      (h.balanced started).setMute rfl
    have obeyed := h.shared.mute
    dsimp only
    split
    · next follow =>
      refine (debounced.setDampMute false).steady ?_
      rw [setDampMute_mute, (setDampMute_beyond ..).globals]
      exact ⟨fun off => absurd (follow.symm.trans off) nofun, fun _ => ⟨rfl, (obeyed.follow follow).2⟩,
        fun latch => absurd (follow.symm.trans latch) nofun⟩
    · next off =>
      exact debounced.steady ⟨obeyed.off, fun follow => absurd (off.symm.trans follow) nofun, obeyed.latched⟩
    · next latch =>
      exact debounced.steady ⟨obeyed.off, fun follow => absurd (latch.symm.trans follow) nofun, obeyed.latched⟩
  · exact h

theorem latchReleased_steady (h : Steady s) (started : s.modes.mode ≠ .start)
    (latch : s.globals.dampMode = .latch) : Steady (setDampMute false (setLatch false s)) := by
  refine (((h.balanced started).setMute (m := { s.mute with latch := false }) rfl).setDampMute false).steady ?_
  rw [setDampMute_mute, (setDampMute_beyond ..).globals]
  exact ⟨fun _ => ⟨rfl, rfl⟩, fun follow => absurd (latch.symm.trans follow) nofun, fun _ => rfl⟩

/-- A change of damp mode: the latch and the mute follow the new mode's table (R91). -/
theorem changeDampMode_balanced (h : Steady s) (started : s.modes.mode ≠ .start) (new : DampMode) :
    Balanced (changeDampMode new s) ∧ (changeDampMode new s).mute.Obeys new := by
  have moded := (h.balanced started).setDampMode new
  have unlatched : Balanced (setLatch false { s with globals := { s.globals with dampMode := new } }) :=
    moded.setMute rfl
  unfold changeDampMode
  dsimp only
  split
  · next same => exact ⟨h.balanced started, same ▸ h.shared.mute⟩
  · cases new with
    | off =>
      refine ⟨unlatched.setDampMute false, ?_⟩
      rw [setDampMute_mute]
      exact ⟨fun _ => ⟨rfl, rfl⟩, nofun, nofun⟩
    | follow =>
      refine ⟨unlatched.setDampMute s.mute.debounced, ?_⟩
      rw [setDampMute_mute]
      exact ⟨nofun, fun _ => ⟨rfl, rfl⟩, nofun⟩
    | latch =>
      dsimp only
      split
      · next held =>
        obtain ⟨follow, debounced⟩ : s.globals.dampMode = .follow ∧ s.mute.debounced = true := by simpa using held
        exact ⟨moded.setMute rfl, nofun, nofun, fun _ => (h.shared.mute.follow follow).1.trans debounced⟩
      · refine ⟨unlatched.setDampMute false, ?_⟩
        rw [setDampMute_mute]
        exact ⟨nofun, nofun, fun _ => rfl⟩

theorem applyGlobals_steady (h : Steady s) (started : s.modes.mode ≠ .start) {g : Globals} (valid : g.Valid) :
    Steady (applyGlobals g s) := by
  obtain ⟨b, obeys⟩ := changeDampMode_balanced h started g.dampMode
  unfold applyGlobals
  dsimp only
  have outside := (updateBacklog_queueOnly { changeDampMode g.dampMode s with globals := g }).outside
  have shared : Shared { changeDampMode g.dampMode s with globals := g } :=
    ⟨valid, b.timebase, obeys, b.idle, b.link.congr rfl rfl, b.frames⟩
  refine ⟨shared.of_outside outside,
    .compared ⟨b.ledger.queue.capacity, b.ledger.queue.account⟩ b.ledger.order, fun n => ?_, fun starts => ?_⟩
  · rw [outside.modes, outside.mute, updateBacklog_channel]
    exact b.sound n
  · rw [outside.modes] at starts
    exact absurd starts b.started

end

end Sys2Proof.Machine
end

section
/-! The changes of mode keep a state steady: START's end (R173), doze entry (R176) and the wakes (R177). -/

namespace Sys2Proof.Machine

/-- A steady state from its parts: the registers beyond the strings and the mode stand, and every string is sound in
the mode that is entered. -/
theorem Steady.of_parts {s t : State} (h : Steady s) (beyond : Beyond s t) (mute : t.mute = s.mute)
    (started : t.modes.mode ≠ .start) (idle : t.modes.mode = .doze → t.modes.idleDue = false) (ledger : Ledger t)
    (sound : ∀ n, (t.channel n).Sound t.modes.mode s.mute.inForce) : Steady t :=
  ⟨h.shared.of_beyond beyond (by rw [mute]; exact h.shared.mute) idle, ledger, fun n => by rw [mute]; exact sound n,
    fun starts => absurd starts started⟩

section
variable {s : State} {n : Str} {c : Channel} {damped : Bool}

/-! ## Doze entry (R15, R38, R57, R94, R123, R176) -/

theorem Lane.commit_clearCrossing (old new : Profile) (l : Lane) :
    (l.commit old new).clearCrossing = l.clearCrossing.commit old new := by
  unfold commit
  dsimp only
  split <;> rfl

theorem Capture.commit_doze (new : Profile) (u : Capture) : (u.commit new).doze = u.doze.commit new := by
  unfold commit
  split <;> rfl

/-- The blocks of a string may leave for DOZE before a commit or after it. -/
theorem Channel.commit_dozeBlocks (c : Channel) (damped : Bool) :
    (c.commit damped).dozeBlocks = c.dozeBlocks.commit damped := by
  cases enables : c.staged.enabled
  · simp [commit, dozeBlocks, entering, Lane.commit_clearCrossing, Capture.commit_doze, GateLine.doze, enables]
  · cases mutes : (!c.active.enabled && damped) <;>
      simp only [commit, dozeBlocks, entering, Lane.commit_clearCrossing, Capture.commit_doze, enables, mutes,
        Bool.false_eq_true, if_true, if_false]

theorem Channel.toQuiet_dozeBlocks (c : Channel) (damped : Bool) :
    (c.toQuiet damped).dozeBlocks = c.dozeBlocks.toQuiet damped := by
  unfold toQuiet
  change (if c.pendingFlag then _ else _ : Channel).dozeBlocks = if c.pendingFlag then _ else _
  cases c.pendingFlag
  · rfl
  · exact commit_dozeBlocks (c.entering .quiet) damped

/-- The string with its gate forced CLOSED at a doze entry. -/
def Channel.dozing (c : Channel) : Channel := { c with detector := c.detector.doze }

/-- A string that is QUIET or MUTED as the part enters DOZE. -/
theorem Channel.Sound.dozes (h : c.Sound .run damped) (calm : c.voice.state = .quiet ∨ c.voice.state = .muted) :
    c.dozing.dozeBlocks.Sound .doze damped where
  lawful := by
    have notSounding : c.voice.state ≠ .sounding := by rcases calm with h | h <;> rw [h] <;> nofun
    refine ⟨h.lawful.voice, ⟨fun _ => rfl, fun notQuiet notMuted =>
      absurd (calm.resolve_left notQuiet) notMuted⟩, ?_,
      ⟨h.lawful.reporter.output, h.lawful.reporter.lastReported, h.lawful.reporter.schedule⟩, h.lawful.bleed,
      h.lawful.openMute, fun disabled => ?_⟩
    · change false = (c.voice.state == .sounding && true)
      rw [beq_eq_false_iff_ne.mpr notSounding, Bool.false_and]
    · have d := h.lawful.disabled disabled
      exact ⟨d.voice, ⟨rfl, rfl, rfl⟩, ⟨rfl, rfl, rfl⟩, d.counts, rfl, d.markers, ⟨rfl, rfl⟩⟩
  damp := h.damp
  pending _ := h.pending nofun
  doze _ := ⟨calm, ⟨rfl, rfl, rfl⟩, ⟨rfl, rfl, rfl⟩, rfl, ⟨rfl, rfl⟩⟩

/-- A playing string whose note, if any, has ended toward the host, as it enters QUIET at a doze entry. -/
theorem Channel.Playing.dozes (p : c.Playing damped) (unreported : c.voice.reported = false)
    (notMuted : c.voice.state ≠ .muted) : (c.dozing.toQuiet damped).dozeBlocks.Sound .doze damped := by
  cases p.undamped notMuted
  have causes := p.voice.unmuted notMuted
  have ready : c.dozing.dozeBlocks.Ready :=
    ⟨p.enabled, unreported, p.voice.unfixed unreported, rfl, rfl, causes.1, causes.2,
      p.openMute.symm.trans causes.2⟩
  rw [Channel.toQuiet_dozeBlocks]
  exact ready.toQuiet fun _ => ⟨.inl rfl, ⟨rfl, rfl, rfl⟩, ⟨rfl, rfl, rfl⟩, rfl, ⟨rfl, rfl⟩⟩

/-- A string that is not QUIET is enabled (R61). -/
theorem Channel.Sound.playing_of_active (h : c.Sound .run damped) (active : c.voice.state ≠ .quiet) :
    c.Playing damped := by
  refine h.playing ?_
  rw [← Bool.not_eq_false]
  exact fun disabled => active (h.lawful.disabled disabled).voice.1

/-- The voice of each string at a doze entry, its gate CLOSED. -/
theorem dozeVoice_dozes (tallied : Tallied damped s) (sound : c.Sound .run damped)
    (channel : s.channel n = c.dozing) :
    Tallied damped (dozeVoice n s) ∧ ((dozeVoice n s).channel n).dozeBlocks.Sound .doze damped := by
  have voice : (s.channel n).voice = c.voice := by rw [channel]; rfl
  have enters (notQuiet : c.voice.state ≠ .quiet) (notMuted : c.voice.state ≠ .muted)
      (notSounding : c.voice.state ≠ .sounding) : Tallied damped (enterQuiet n s)
        ∧ ((enterQuiet n s).channel n).dozeBlocks.Sound .doze damped := by
    have p := sound.playing_of_active notQuiet
    refine ⟨enterQuiet_tallied tallied n, ?_⟩
    rw [enterQuiet_channel, tallied.force, channel]
    exact p.dozes (p.voice.unreported notSounding).1 notMuted
  have stays (calm : c.voice.state = .quiet ∨ c.voice.state = .muted) :
      Tallied damped s ∧ (s.channel n).dozeBlocks.Sound .doze damped :=
    ⟨tallied, channel ▸ sound.dozes calm⟩
  unfold dozeVoice
  rw [voice]
  cases state : c.voice.state with
  | sounding =>
    have p := sound.playing_of_active (by simp [state])
    have lawful : (s.channel n).voice.Lawful := voice ▸ p.voice
    have offered := tallied.of_outside (offerNoteOff_onlyString n .doze s).outside
      (tallied.ledger.offerNoteOff n .doze)
    refine ⟨enterQuiet_tallied offered n, ?_⟩
    rw [enterQuiet_channel, offered.force, offerNoteOff_channel lawful, channel]
    exact p.unreport.dozes rfl (by simp [Channel.modVoice, state])
  | suspect => exact enters (by simp [state]) (by simp [state]) (by simp [state])
  | acquiring => exact enters (by simp [state]) (by simp [state]) (by simp [state])
  | silent => exact enters (by simp [state]) (by simp [state]) (by simp [state])
  | quiet => exact stays (.inl state)
  | muted => exact stays (.inr state)

theorem enterDoze_registers (s : State) :
    (enterDoze s).modes = { s.modes with mode := .doze, idle := 0, idleDue := false, wakeDue := false }
      ∧ (enterDoze s).mute = s.mute := by
  unfold enterDoze
  have judged := forStrings_outside _ (fun n t => (takeCompletion_onlyString n t).outside) Str.all s
  have voiced (t : State) := forStrings_outside _ (fun n t => (dozeVoice_onlyString n t).outside) Str.all t
  dsimp only
  rw [(offerPlain_queueOnly _ _).outside.modes, (offerPlain_queueOnly _ _).outside.mute, State.modes_modAll,
    State.mute_modAll, (voiced _).modes, (voiced _).mute, State.modes_modAll, State.mute_modAll]
  exact ⟨by rw [judged.modes], judged.mute⟩

theorem enterDoze_steady (h : Steady s) (run : s.modes.mode = .run) : Steady (enterDoze s) := by
  have awake : ∀ n, (s.channel n).Sound .run s.mute.inForce := run ▸ h.sound
  obtain ⟨judged, playing⟩ := forStrings_all (before := fun c => c.Sound .run s.mute.inForce)
    (after := fun c => c.Sound .run s.mute.inForce) takeCompletion_onlyString (fun n t tallied sound =>
      have standing : Standing .run s.mute.inForce n t := ⟨tallied, sound⟩
      have taken := standing.through nofun (fun r => (takeCompletion_running r).standing) takeCompletion_rests
      ⟨taken.toTallied, taken.sound⟩) ⟨rfl, h.ledger⟩ awake
  have closed : Tallied s.mute.inForce (State.modAll { forStrings takeCompletion Str.all s with
      modes := { (forStrings takeCompletion Str.all s).modes with
        mode := .doze, idle := 0, idleDue := false, wakeDue := false } } Channel.dozing) :=
    ⟨judged.force, (judged.ledger.modAll (f := Channel.dozing) fun _ => .refl _).of_strings (fun _ => .refl _) rfl
      rfl rfl rfl⟩
  obtain ⟨voiced, dozing⟩ := forStrings_all
    (before := fun c => ∃ b : Channel, b.Sound .run s.mute.inForce ∧ c = b.dozing)
    (after := fun c => c.dozeBlocks.Sound .doze s.mute.inForce) dozeVoice_onlyString
    (fun n t tallied ⟨b, sound, channel⟩ => dozeVoice_dozes tallied sound channel) closed
    fun n => ⟨_, playing n, State.channel_modAll ..⟩
  obtain ⟨modes, mute⟩ := enterDoze_registers s
  refine h.of_parts (enterDoze_beyond s) mute (by rw [modes]; nofun) (fun _ => by rw [modes]) ?_ fun n => ?_
  · exact (voiced.ledger.modAll (f := Channel.dozeBlocks) fun _ => .refl _).offerPlain fun _ _ => rfl
  · rw [modes]
    unfold enterDoze
    rw [offerPlain_channel, State.channel_modAll]
    exact dozing n

/-! ## The wakes (R57, R177) -/

theorem Channel.Sound.wakes (h : c.Sound .doze damped) : c.Sound .run damped :=
  ⟨h.lawful, h.damp, fun _ => h.pending nofun, nofun⟩

/-- The detector of a string in RUN changed, its gate as it was. -/
theorem Channel.Sound.setDetector (h : c.Sound .run damped) {d : Detector} (gate : d.gate = c.detector.gate)
    (disabled : c.active.enabled = false → d.rearmWait = false ∧ d.judgementDue = false ∧ d.completion = none) :
    ({ c with detector := d } : Channel).Sound .run damped where
  lawful := ⟨h.lawful.voice, by simpa only [gateLawful, gate] using h.lawful.gate, h.lawful.line,
    ⟨h.lawful.reporter.output, h.lawful.reporter.lastReported, h.lawful.reporter.schedule⟩, h.lawful.bleed,
    h.lawful.openMute, fun off =>
      let k := h.lawful.disabled off
      ⟨k.voice, disabled off, k.capture, k.counts, k.crossing, k.markers, k.line⟩⟩
  damp := h.damp
  pending := h.pending
  doze := nofun

theorem returnToRun_registers (cause : WakeCause) (s : State) :
    (returnToRun cause s).modes = { s.modes with mode := .run, idle := 0, idleDue := false, wakeDue := false }
      ∧ (returnToRun cause s).mute = s.mute := by
  have outside := (offerPlain_queueOnly (.notice (.woke cause))
    { s with modes := { s.modes with mode := .run, idle := 0, idleDue := false, wakeDue := false } }).outside
  exact ⟨outside.modes, outside.mute⟩

theorem returnToRun_channel (cause : WakeCause) (s : State) (n : Str) :
    (returnToRun cause s).channel n = s.channel n := offerPlain_channel ..

theorem returnToRun_ledger (h : Ledger s) (cause : WakeCause) : Ledger (returnToRun cause s) := by
  have moded : Ledger { s with
      modes := { s.modes with mode := .run, idle := 0, idleDue := false, wakeDue := false } } :=
    h.of_strings (fun _ => .refl _) rfl rfl rfl rfl
  exact moded.offerPlain fun _ _ => rfl

theorem wakeByCommand_steady (h : Steady s) (doze : s.modes.mode = .doze) : Steady (wakeByCommand s) := by
  obtain ⟨modes, mute⟩ := returnToRun_registers .command s
  have beyond : Beyond s (wakeByCommand s) :=
    (returnToRun_beyond .command s).trans ⟨rfl, rfl, rfl, rfl, rfl, rfl, rfl, rfl⟩
  have run : (wakeByCommand s).modes.mode = .run := (congrArg Modes.mode modes).trans rfl
  refine h.of_parts beyond mute (by rw [run]; nofun) (fun dozes => absurd (run.symm.trans dozes) nofun) ?_
    fun n => ?_
  · unfold wakeByCommand
    exact (returnToRun_ledger h.ledger .command).modAll fun _ => .refl _
  rw [run]
  unfold wakeByCommand
  rw [State.channel_modAll, returnToRun_channel]
  have sound := h.sound n
  rw [doze] at sound
  refine sound.wakes.setDetector rfl fun disabled => ?_
  have d := sound.lawful.disabled disabled
  exact ⟨d.detector.1, by simp [disabled], d.detector.2.2⟩

theorem wakeByString_steady (h : Steady s) (order : List Str) : Steady (wakeByString order s) := by
  have beyond := wakeByString_beyond order s
  unfold wakeByString at beyond ⊢
  split at beyond
  · next due =>
    rw [if_pos due]
    have doze : s.modes.mode = .doze := by simpa using (Bool.and_eq_true_iff.mp due).1
    split at beyond
    · exact h.of_registers (h.shared.link.congr rfl rfl) rfl rfl rfl rfl rfl rfl rfl rfl rfl rfl rfl
        fun f => ⟨f.channels, f.lock, f.timebase, f.queue, f.backlog, f.mute, f.idle.1, f.idle.2.1, rfl,
          f.idle.2.2.2⟩
    · next lowest _ _ =>
      obtain ⟨modes, mute⟩ := returnToRun_registers (.string lowest) s
      have ready : Tallied s.mute.inForce ((returnToRun (.string lowest) s).modAll fun c =>
          { c with detector := { c.detector with rearmWait := false } }) :=
        ⟨congrArg Mute.inForce mute, (returnToRun_ledger h.ledger _).modAll fun _ => .refl _⟩
      have channel (n : Str) : ((returnToRun (.string lowest) s).modAll fun c =>
          { c with detector := { c.detector with rearmWait := false } }).channel n
            = { s.channel n with detector := { (s.channel n).detector with rearmWait := false } } := by
        rw [State.channel_modAll, returnToRun_channel]
      have sound (n : Str) : (((returnToRun (.string lowest) s).modAll fun c =>
          { c with detector := { c.detector with rearmWait := false } }).channel n).Sound .run s.mute.inForce := by
        have asleep := h.sound n
        rw [doze] at asleep
        rw [channel]
        refine asleep.wakes.setDetector rfl fun disabled => ?_
        have d := asleep.lawful.disabled disabled
        exact ⟨rfl, d.detector.2.1, d.detector.2.2⟩
      obtain ⟨woken, taken, others⟩ := forStrings_each
        (before := fun c => c.active.enabled = true ∧ c.Sound .run s.mute.inForce)
        (after := fun c => c.Sound .run s.mute.inForce) wakeString_onlyString
        (fun n t tallied before =>
          have attacked := (onset_running ⟨tallied, before.2.playing before.1⟩ _ true).standing
          ⟨attacked.toTallied, attacked.sound⟩)
        ((Str.inOrder_nodup order).filter (wakes s)) ready fun n mem => by
          refine ⟨?_, sound n⟩
          rw [channel]
          exact (Bool.and_eq_true_iff.mp (List.mem_filter.mp mem).2).1
      have outside := forStrings_outside _ (fun n u => (wakeString_onlyString n u).outside)
        ((Str.inOrder order).filter (wakes s)) ((returnToRun (.string lowest) s).modAll fun c =>
          { c with detector := { c.detector with rearmWait := false } })
      have run := (congrArg Modes.mode (outside.modes.trans modes)).trans rfl
      refine h.of_parts beyond (outside.mute.trans mute) (fun starts => absurd (run.symm.trans starts) nofun)
        (fun dozes => absurd (run.symm.trans dozes) nofun) woken.ledger fun n => ?_
      rw [run]
      by_cases mem : n ∈ (Str.inOrder order).filter (wakes s)
      · exact taken n mem
      · rw [others n mem]
        exact sound n
  · next rests =>
    rw [if_neg rests]
    exact h

/-! ## The end of START (R2, R15, R173) -/

theorem endStart_steady (h : Steady s) : Steady (endStart s) := by
  have beyond := endStart_beyond s
  unfold endStart at beyond ⊢
  split at beyond
  · next due =>
    rw [if_pos due]
    have starts : s.modes.mode = .start := by simpa using (Bool.and_eq_true_iff.mp due).1
    have form := h.start starts
    have undamped : s.mute.inForce = false := congrArg Mute.inForce form.mute
    have measured : Tallied false (s.modAll fun c => { c with lane := c.lane.startEnd }) :=
      ⟨undamped, h.ledger.modAll fun _ => .refl _⟩
    obtain ⟨quiet, sound⟩ := forStrings_all
      (before := fun c => c.Lawful ∧ c.voice.state = .quiet ∧ c.voice.damp = (false && c.active.enabled))
      (after := fun c => c.Sound .run false) enterQuiet_onlyString
      (fun n t tallied ⟨lawful, quiet, damp⟩ => by
        refine ⟨enterQuiet_tallied tallied n, ?_⟩
        rw [enterQuiet_channel, tallied.force]
        exact lawful.toQuiet quiet damp nofun) measured fun n => by
          have sound := h.sound n
          rw [undamped] at sound
          have lane := sound.setLane (l := (s.channel n).lane.startEnd) (fun _ => rfl)
            fun disabled => (sound.lawful.disabled disabled).counts
          rw [State.channel_modAll]
          refine ⟨lane.lawful, ?_, lane.damp⟩
          rw [form.channels n]
          rfl
    have outside := (forStrings_outside _ (fun n t => (enterQuiet_onlyString n t).outside) Str.all
      (s.modAll fun c => { c with lane := c.lane.startEnd })).trans
      (offerPlain_queueOnly (.notice (.hello s.modes.causes)) _).outside
    have greeted := quiet.ledger.offerPlain (r := .notice (.hello s.modes.causes)) fun _ _ => rfl
    refine h.of_parts beyond outside.mute nofun (fun _ => rfl)
      (greeted.of_strings (fun _ => .refl _) rfl rfl rfl rfl) fun n => ?_
    rw [undamped]
    exact (offerPlain_channel (.notice (.hello s.modes.causes)) _ n).symm ▸ sound n
  · next early =>
    rw [if_neg early]
    exact h

end

end Sys2Proof.Machine
end

section
/-! A frame end and a sample keep a state steady (R1, R2, R10, R18, R62, R88, R164, R173), and so does every step:
the statement of soundness. -/

namespace Sys2Proof.Machine

section
variable {s : State} {c : Channel} {mode : Mode} {damped : Bool}

/-! ## A string at a frame end -/

/-- The voice's timers neither start nor end at a frame end (R62). -/
theorem Channel.voiceFrameEnd_lawful (l : c.voice.Lawful) : c.voiceFrameEnd.voice.Lawful := by
  rw [voiceFrameEnd_voice]
  have rises {p : Prop} [Decidable p] (t : Option Nat) (f : Nat → Nat) :
      (if p then t.map f else t).isSome = t.isSome := by
    split
    · exact Option.isSome_map
    · rfl
  exact
    { l with
      stallTimer := by rw [rises]; exact l.stallTimer
      lostTimer := by rw [rises]; exact l.lostTimer
      acqTimer := by rw [rises]; exact l.acqTimer
      bare := fun calm => by
        have still : c.voice.state ≠ .acquiring ∧ c.voice.state ≠ .sounding := by
          rcases calm with h | h | h <;> exact ⟨fun k => absurd (h.symm.trans k) nofun,
            fun k => absurd (h.symm.trans k) nofun⟩
        have fresh : c.voice.stallFresh = false := by rw [l.bare calm]; rfl
        have same : ({ c.voice with stallFresh := false } : Voice) = c.voice := by rw [← fresh]
        simp only [still.1, still.2, false_and, if_false]
        rw [same]
        exact l.bare calm }

/-- The reporter's items are present after a frame end where they were before it. -/
theorem Channel.reporterFrameEnd_present (c : Channel) :
    c.reporterFrameEnd.reporter.output.isSome = c.reporter.output.isSome
      ∧ c.reporterFrameEnd.reporter.lastReported.isSome = c.reporter.lastReported.isSome
      ∧ c.reporterFrameEnd.reporter.schedule.isSome = c.reporter.schedule.isSome := by
  cases boundary : c.reachesBoundary
  · rw [reporterFrameEnd_between boundary]
    refine ⟨steppedOutput_isSome c, rfl, ?_⟩
    unfold Reporter.count
    dsimp only
    split
    · rfl
    · exact Option.isSome_map
  · rw [reporterFrameEnd_boundary boundary]
    refine ⟨rfl, rfl, ?_⟩
    cases schedule : c.reporter.schedule with
    | none => simp [reachesBoundary, schedule] at boundary
    | some => rfl

theorem GateLine.frameEnd_line (g : GateLine) :
    g.frameEnd.high = g.high ∧ g.frameEnd.drop.isNone = g.drop.isNone := by
  unfold frameEnd
  split
  · exact ⟨rfl, rfl⟩
  · next running =>
    split
    · exact ⟨rfl, rfl⟩
    · exact ⟨rfl, by rw [running]; rfl⟩

theorem Channel.Sound.laneFrameEnd (h : c.Sound mode damped) :
    ({ c with lane := (c.laneFrameEnd mode).lane } : Channel).Sound mode damped := by
  cases mode with
  | start =>
    exact h.setLane (fun crossing => Lane.clear_of_path crossing rfl)
      fun disabled => (h.lawful.disabled disabled).counts
  | run =>
    refine h.setLane (fun crossing => Lane.clear_of_path crossing rfl) fun disabled => ?_
    obtain ⟨clip, hold, release⟩ := (h.lawful.disabled disabled).counts
    simp [Channel.laneFrameEnd, disabled, clip, hold, release]
  | doze =>
    refine h.setLane (fun crossing => Lane.clear_of_path crossing rfl) fun disabled => ?_
    obtain ⟨clip, hold, release⟩ := (h.lawful.disabled disabled).counts
    simp [Channel.laneFrameEnd, disabled, clip, hold, release]

/-- The blocks of a sound string beside its lane at a frame end of RUN. -/
theorem Channel.Sound.runBlocks (h : c.Sound .run damped) {lane : Lane}
    (laned : ({ c with lane := lane } : Channel).Sound .run damped) :
    ({ c with
      lane := lane
      capture := c.capture.frameEnd
      detector := { c.detector with judgementDue := c.active.enabled }
      voice := c.voiceFrameEnd.voice
      bleed := { c.bleed with stepDue := c.voice.state == .suspect }
      reporter := c.reporterFrameEnd.reporter
      gateLine := c.gateLine.frameEnd } : Channel).Sound .run damped := by
  obtain ⟨output, lastReported, schedule⟩ := c.reporterFrameEnd_present
  obtain ⟨high, drop⟩ := c.gateLine.frameEnd_line
  refine ⟨⟨voiceFrameEnd_lawful h.lawful.voice, h.lawful.gate, ?_, ⟨?_, ?_, ?_⟩, h.lawful.bleed, h.lawful.openMute,
    fun disabled => ?_⟩, h.damp, h.pending, nofun⟩
  · have line := h.lawful.line
    unfold lineLawful at line ⊢
    dsimp only
    rw [high, drop]
    exact line
  · dsimp only
    rw [output]
    exact h.lawful.reporter.output
  · dsimp only
    rw [lastReported]
    exact h.lawful.reporter.lastReported
  · dsimp only
    rw [schedule]
    exact h.lawful.reporter.schedule
  · have d := h.lawful.disabled disabled
    have l := laned.lawful.disabled disabled
    have capture : c.capture.frameEnd = c.capture := by
      rw [Capture.frameEnd_eq, if_pos d.capture.1]
    have line : c.gateLine.frameEnd = c.gateLine := by
      unfold GateLine.frameEnd
      rw [d.line.2]
    refine ⟨d.voice, ⟨d.detector.1, disabled, d.detector.2.2⟩, ?_, l.counts, l.crossing, d.markers, ?_⟩
    · dsimp only
      rw [capture]
      exact d.capture
    · dsimp only
      rw [line]
      exact d.line

theorem Channel.Sound.frameEnd (h : c.Sound mode damped) : (c.frameEnd mode).Sound mode damped := by
  have lane := h.laneFrameEnd
  cases mode with
  | start => exact lane
  | run =>
    rw [frameEnd_run]
    exact h.runBlocks lane
  | doze => exact lane

theorem Channel.frameEnd_tally (mode : Mode) (c : Channel) : c.voice.SameTally (c.frameEnd mode).voice := by
  cases mode with
  | start => exact .refl _
  | run => rw [frameEnd_run]; exact ⟨rfl, rfl, fun _ => rfl⟩
  | doze => exact .refl _

/-! ## FRAME_END -/

theorem frameEnd_linkLaw (h : LinkLaw s) {t : State} (link : t.link = s.link.frameEnd)
    (restart : t.modes.restart = s.modes.restart) : LinkLaw t := by
  unfold Link.frameEnd at link
  split at link
  · exact h.congr link restart
  · next active =>
    have law : LinkLaw { s with link := { s.link with rxTimer := tick 9 s.link.rxTimer } } :=
      ⟨fun hunt => absurd hunt active, h.length, h.body, h.check, Nat.min_le_left .., h.buffer, h.restartReply⟩
    exact law.congr link restart

/-- What the mode controller and the mute logic leave at a frame end. -/
theorem modeFrameEnd_registers (damp : Bool) (s : State) :
    (modeFrameEnd damp s).modes.mode = s.modes.mode
      ∧ (modeFrameEnd damp s).modes.restart = s.modes.restart
      ∧ (s.modes.mode ≠ .run → (modeFrameEnd damp s).modes.idleDue = s.modes.idleDue)
      ∧ (s.modes.settle ≤ startFrames → (modeFrameEnd damp s).modes.settle ≤ startFrames)
      ∧ (modeFrameEnd damp s).mute.inForce = s.mute.inForce
      ∧ (modeFrameEnd damp s).mute.debounced = s.mute.debounced
      ∧ (modeFrameEnd damp s).mute.latch = s.mute.latch := by
  cases mode : s.modes.mode with
  | start =>
    rw [modeFrameEnd_start mode]
    exact ⟨mode, rfl, fun _ => rfl, fun _ => Nat.min_le_left .., rfl, rfl, rfl⟩
  | run =>
    rw [modeFrameEnd_run mode]
    have idle : (idleFrameEnd s).modes.mode = s.modes.mode ∧ (idleFrameEnd s).modes.restart = s.modes.restart
        ∧ (idleFrameEnd s).modes.settle = s.modes.settle := by
      unfold idleFrameEnd
      split <;> exact ⟨rfl, rfl, rfl⟩
    exact ⟨idle.1.trans mode, idle.2.1, fun other => absurd rfl other, fun bound => idle.2.2.trans_le bound, rfl, rfl,
      rfl⟩
  | doze =>
    rw [modeFrameEnd_doze mode]
    exact ⟨mode, rfl, fun _ => rfl, id, rfl, rfl, rfl⟩

/-- START takes a frame end in its lanes' frames and its settle timer (R2, R173). -/
theorem StartForm.frameEnd (f : StartForm s) (starts : s.modes.mode = .start) (damp : Bool) :
    StartForm (modeFrameEnd damp s.blocksEnded) := by
  rw [modeFrameEnd_start (s := s.blocksEnded) starts]
  refine ⟨fun n => ?_, f.lock, f.timebase, f.queue, f.backlog,
    congrArg (fun m : Mute => { m with pin := damp }) f.mute, f.idle⟩
  have ended : (State.channel { s.blocksEnded with
      modes := { s.blocksEnded.modes with settle := min 512 (s.blocksEnded.modes.settle + 1) }
      mute := { s.blocksEnded.mute with pin := damp } } n) = (s.channel n).laneFrameEnd .start :=
    (s.blocksEnded_channel n).trans (by rw [starts]; rfl)
  rw [ended]
  exact congrArg (Channel.laneFrameEnd .start) (f.channels n)

theorem takeFrameEnd_steady (h : Steady s) (damp : Bool) : Steady (takeFrameEnd damp s) := by
  by_cases due : s.frameSamples = 8
  · rw [takeFrameEnd_of_due due]
    have only := modeFrameEnd_only damp s.blocksEnded
    obtain ⟨mode, restart, idleDue, settle, inForce, debounced, latch⟩ := modeFrameEnd_registers damp s.blocksEnded
    have obeyed := h.shared.mute
    have channel (n : Str) : (modeFrameEnd damp s.blocksEnded).channel n = (s.channel n).frameEnd s.modes.mode := by
      rw [only]
      exact s.blocksEnded_channel n
    have globals : (modeFrameEnd damp s.blocksEnded).globals = s.globals := by rw [only]; rfl
    have link : (modeFrameEnd damp s.blocksEnded).link = s.link.frameEnd := by rw [only]; rfl
    refine ⟨⟨by rw [globals]; exact h.shared.globals, by rw [only]; exact h.shared.timebase, ?_, fun dozes => ?_,
      frameEnd_linkLaw h.shared.link link restart, ?_⟩, ?_, fun n => ?_, fun starts => ?_⟩
    · rw [globals]
      exact ⟨fun off => by rw [inForce, latch]; exact obeyed.off off,
        fun follow => by rw [inForce, debounced, latch]; exact obeyed.follow follow,
        fun latched => by rw [inForce, latch]; exact obeyed.latched latched⟩
    · have doze : s.modes.mode = .doze := mode.symm.trans dozes
      rw [idleDue (fun run => absurd (doze.symm.trans run) nofun)]
      exact h.shared.idle doze
    · refine ⟨?_, settle h.shared.frames.2⟩
      rw [only]
      exact Nat.zero_le _
    · refine h.ledger.of_strings (fun n => ?_) ?_ ?_ ?_ ?_
      · rw [channel]
        exact Channel.frameEnd_tally ..
      all_goals rw [only]; rfl
    · rw [channel, mode, inForce]
      exact (h.sound n).frameEnd
    · have start : s.modes.mode = .start := mode.symm.trans starts
      exact (h.start start).frameEnd start damp
  · have early : takeFrameEnd damp s = s := by simp [takeFrameEnd, State.atFrameEnd, due]
    rw [early]
    exact h

/-! ## SAMPLE -/

theorem Channel.Sound.sample (h : c.Sound mode damped) (stamp : Stamp) (signal : Int) :
    (c.sample mode stamp signal).Sound mode damped := by
  have pinned : ({ c with gateLine := { c.gateLine with pin := c.gateLine.high } } : Channel).Sound mode damped :=
    h.setLine h.lawful.line id
  by_cases start : mode = .start
  · subst start
    exact pinned.setLane (fun crossing => Lane.clear_of_path crossing rfl)
      fun disabled => (h.lawful.disabled disabled).counts
  · have lane := sample_lane start stamp signal c
    have capture := sample_capture start stamp signal c
    dsimp only at lane
    rw [sample_only]
    by_cases runs : mode = .run ∧ c.active.enabled = true
    · obtain ⟨rfl, enabled⟩ := runs
      have p := pinned.playing enabled
      exact Channel.Playing.sound { p with
        reporter := ⟨p.reporter.output, p.reporter.lastReported, p.reporter.schedule⟩ }
    · have path (x : Int) : c.path mode stamp x = (c.lane, none) := by
        simp only [Channel.path, Bool.and_eq_true, decide_eq_true_eq]
        exact if_neg runs
      rw [path] at lane capture
      have kept : (c.sample mode stamp signal).capture = c.capture := capture
      rw [lane, kept]
      refine pinned.setLane (fun crossing => Lane.clear_of_path crossing rfl) fun disabled => ?_
      obtain ⟨clip, hold, release⟩ := (h.lawful.disabled disabled).counts
      simp [clip, hold, release]

theorem Channel.sample_voice (mode : Mode) (stamp : Stamp) (signal : Int) (c : Channel) :
    (c.sample mode stamp signal).voice = c.voice := by rw [sample_only]

theorem clipAtSample_steady (h : Steady s) (signals : Eight Int) (n : Str) : Steady (clipAtSample signals n s) := by
  cases clips : s.clips signals n
  · rw [clipAtSample_of_not clips]
    exact h
  · obtain ⟨raised, inactive⟩ := clipAtSample_of_clips clips
    obtain ⟨started, enabled⟩ : s.modes.mode ≠ .start ∧ (s.channel n).active.enabled = true := by
      simp only [State.clips, Bool.and_eq_true, bne_iff_ne] at clips
      exact ⟨clips.1.1.1, clips.1.1.2⟩
    rw [raised]
    refine h.of_string started (raiseCondition_onlyString ..)
      ⟨⟨congrArg Mute.inForce (raiseCondition_onlyString .clip n s).outside.mute, raiseCondition_ledger h.ledger ..⟩,
        ?_⟩
    rw [(raiseCondition_raised inactive).channel]
    exact (h.sound n).setClip enabled _

/-- Every sample stamp is a multiple of 128 (R18). -/
theorem State.nextStamp_mod (law : TimebaseLaw s) : s.nextStamp.toNat % 128 = 0 := by
  have law : s.timebase.toNat % 128 = 0 := law
  unfold nextStamp
  split
  · rw [BitVec.toNat_add]
    change (s.timebase.toNat + 128) % 16777216 % 128 = 0
    omega
  · rfl

theorem StartForm.sampled (f : StartForm s) (starts : s.modes.mode = .start) (signals : Eight Int) :
    StartForm (s.sampled signals) := by
  refine ⟨fun n => ?_, f.lock, ?_, f.queue, f.backlog, f.mute, f.idle⟩
  · rw [State.sampled_channel, starts]
    exact congrArg (fun d : Channel => { d with
      lane := { d.lane with startSum := (s.channel n).lane.startSum + (s.channel n).raw (signals.get n) }
      gateLine := { d.gateLine with pin := d.gateLine.high } }) (f.channels n)
  · unfold State.sampled
    rw [starts]
    exact ⟨f.timebase.1, by rw [f.timebase.2]; rfl⟩

theorem sampled_steady (h : Steady s) (signals : Eight Int) (within : s.frameSamples ≠ 8) :
    Steady (s.sampled signals) := by
  have frames : s.frameSamples + 1 ≤ 8 := Nat.lt_of_le_of_ne h.shared.frames.1 within
  refine ⟨⟨h.shared.globals, ?_, h.shared.mute, h.shared.idle, h.shared.link.congr rfl rfl,
    ⟨frames, h.shared.frames.2⟩⟩, h.ledger.of_strings (fun n => ?_) rfl rfl rfl rfl, fun n => ?_,
    fun starts => (h.start starts).sampled starts signals⟩
  · unfold TimebaseLaw State.sampled
    dsimp only
    split
    · exact State.nextStamp_mod h.shared.timebase
    · exact h.shared.timebase
  · rw [State.sampled_channel, Channel.sample_voice]
    exact .refl _
  · rw [State.sampled_channel]
    exact (h.sound n).sample ..

theorem takeSample_steady (h : Steady s) (signals : Eight Int) (order : List Str) (within : s.frameSamples ≠ 8) :
    Steady (takeSample signals order s) := by
  rw [takeSample_eq]
  exact forStrings_induct (P := Steady) _ (fun n t steady => clipAtSample_steady steady signals n) _ _
    (sampled_steady h signals within)

end

/-! ## Every step -/

theorem steady_kept : Kept fun s t => Steady s → Steady t where
  refl _ := id
  trans h k := k ∘ h
  idle _ rest h := pending_steady h rest
  crossing n _ h := takeCrossing_steady h n
  estimate n _ h := takeEstimate_steady h n
  clipEnd n _ h := endClip_steady h n
  openActive n _ h := openBecomesActive_steady h n
  openEnd n _ h := openBecomesInactive_steady h n
  judgement n _ h := judge_steady h n
  completion n _ h := takeCompletion_steady h n
  bleed n _ h := bleedStep_steady h n
  acquisition n _ h := expireAcquisition_steady h n
  stall n _ h := expireStall_steady h n
  lost n _ h := expireLost_steady h n
  boundary n _ h := takeBoundary_steady h n
  drop n _ h := expireDrop_steady h n
  asserted _ h := dampAsserted_steady h
  deasserted _ h := dampDeasserted_steady h
  dozeEntry _ run h := enterDoze_steady h run
  wakeByString order _ h := wakeByString_steady h order
  wakeByCommand _ doze h := wakeByCommand_steady h doze
  startEnd _ h := endStart_steady h
  frameEnd damp _ h := takeFrameEnd_steady h damp
  sample signals order _ within h := takeSample_steady h signals order within
  receivedByte b stopHigh _ h := receiveByte_steady h b stopHigh
  byteTimeout _ h := byteTimeout_steady h
  transmitTake _ h := transmitTake_steady h
  frameSent _ h := frameSent_steady h
  restartReset straps _ h := restartReset_steady h straps
  powerOn _ s _ := defaulted_steady _ _ s
  supplyDrop _ s _ := defaulted_steady _ _ s
  pinReset s _ := pinReset_steady s
  pinReleased straps _ h := pinReleased_steady h straps
  taken _ _ _ buffer h := taken_steady h buffer
  reply kind outcome data _ h := reply_steady h kind outcome data
  causesCleared _ h := causesCleared_steady h
  flagsCleared _ h := flagsCleared_steady h
  staged n p _ started _ notQuiet h := stage_steady h started n p notQuiet
  stagedQuiet n p _ started _ quiet h := commitProfile_stage_steady h started n p quiet
  forceCommit n _ started h := forceCommit_steady h started n
  applyGlobals _ _ started valid h := applyGlobals_steady h started valid
  clearMarkers kinds strings _ started h := clearMarkers_steady h started kinds strings
  eventGate gate _ started h := eventGate_steady h started gate
  flush n _ started h := flushVoice_steady h started n
  latchReleased _ started latch _ h := latchReleased_steady h started latch
  locked _ started h := locked_steady h started
  restartDue _ started h := restartDue_steady h started

/-- Settles O57: a steady state stays steady, the profiles and the capture units are guarded, and the markers and the
queued GLIDEs keep their laws, each through every event and every command that a step may be. -/
theorem soundnessIsKept : Obligations.SoundnessIsKept := by
  intro s t i taken
  have steady : Steady t := steady_kept.step taken i.steady
  have guarded := (guarded_kept.step taken).string
  have marks := marksKept_kept.step taken
  have settings (n : Str) : (t.channel n).SettingsHeld n :=
    (guarded n).settings ⟨i.settings.active n, i.settings.staged n, i.settings.copied n⟩
  have obeyed := steady.shared.mute
  exact
    { settings := ⟨fun n => (settings n).active, fun n => (settings n).staged, fun n => (settings n).copied,
        steady.shared.globals⟩
      capture := fun n => (guarded n).capture (i.capture n)
      timebase := steady.shared.timebase
      conditions := marks.conditions i.conditions
      queue := steady.ledger.queue
      backlog := steady.ledger.backlog
      oneGlide := marks.glides i.oneGlide
      noteOrder := steady.ledger.order
      channels := fun n => (steady.sound n).lawful
      damp := ⟨obeyed.off, obeyed.follow, obeyed.latched, fun n => (steady.sound n).damp⟩
      start := steady.start
      doze := fun dozes => ⟨steady.shared.idle dozes, fun n => (steady.sound n).doze dozes⟩
      pending := fun started n => (steady.sound n).pending started
      link := steady.shared.link
      frames := steady.shared.frames }

end Sys2Proof.Machine
end

section
/-! What a note that begins from acquisition leaves of the part (R70, R71, R120), and the statement of
VELOCITY_COMPLETION (R54, R64). -/

namespace Sys2Proof.Machine

/-! ## A note from acquisition -/

theorem raiseLine_channel (n : Str) (s : State) :
    (raiseLine n s).channel n = { s.channel n with gateLine := { (s.channel n).gateLine with
      high := (s.channel n).gateLine.high || (s.channel n).gateLine.drop.isNone } } := by
  rw [raiseLine, State.channel_mod_self]
  cases running : (s.channel n).gateLine.drop.isNone <;> simp

section
variable {n : Str} {s : State} {base velocity : Nat} {pitch : Option Nat} {offset : Int} {kind : StartKind}
  {flag : NoteFlag}

/-- A note begun with the line raised leaves the detector and the capture unit as they are. -/
theorem raisedNote_fromAcquisition (unreported : (s.channel n).voice.reported = false)
    (unfixed : (s.channel n).voice.fix = false) :
    let t := raiseLine n (beginNote n base pitch offset kind flag velocity s)
    NoteFromAcquisition n base pitch offset kind flag velocity s t
      ∧ (t.channel n).detector = (s.channel n).detector ∧ (t.channel n).capture = (s.channel n).capture := by
  have begun := beginNote_begun unreported unfixed base pitch offset kind flag velocity
  have channel := raiseLine_channel n (beginNote n base pitch offset kind flag velocity s)
  have note := beginNote_channel unreported unfixed base pitch offset kind flag velocity
  dsimp only
  refine ⟨⟨(beginNote_onlyString ..).trans (raiseLine_onlyString ..),
    ⟨?_, ?_, begun.admitted, begun.refused⟩, ?_, ?_, ?_, ?_, ?_⟩, ?_, ?_⟩
  · rw [channel]; exact begun.voice
  · rw [channel]; exact begun.reporter
  all_goals rw [channel, note]
  all_goals simp [Bleed.absent]

/-- A note from acquisition is judged by what its string was before its voice, and the blocks that are not the
note's, were changed in the same event. -/
theorem noteFromAcquisition_of_mod {t : State} {f : Channel → Channel} {d : Detector} {u : Capture} {b : Bleed}
    {r : Reporter} {w : Voice}
    (note : NoteFromAcquisition n base pitch offset kind flag velocity (s.mod n f) t)
    (changed : f (s.channel n)
      = { s.channel n with detector := d, capture := u, bleed := b, reporter := r, voice := w })
    (damp : w.damp = (s.channel n).voice.damp) (openCause : w.openCause = (s.channel n).voice.openCause)
    (serial : w.serial = (s.channel n).voice.serial) :
    NoteFromAcquisition n base pitch offset kind flag velocity s t := by
  have channel : (s.mod n f).channel n = _ := (State.channel_mod_self s n f).trans changed
  obtain ⟨only, ⟨voice, reporter, admitted, refused⟩, line, bleed, settings, lane, markers⟩ := note
  rw [channel] at voice reporter admitted line settings lane markers
  dsimp only at voice reporter admitted line settings lane markers
  rw [damp, openCause, serial] at voice
  rw [serial] at admitted
  exact ⟨(mod_onlyString ..).trans only, ⟨voice, reporter, admitted, refused⟩, line, bleed, settings, lane,
    markers⟩

/-! ## What tryBegin does in ACQUIRING (R70, R71) -/

theorem tryBegin_of_not_acquiring (h : (s.channel n).voice.state ≠ .acquiring) : tryBegin n s = s := by
  simp [tryBegin, h]

theorem tryBegin_of_unknown (unknown : (s.channel n).voice.currentPitch = none)
    (running : (s.channel n).voice.acqExpired = false) : tryBegin n s = s := by
  cases present : (s.channel n).voice.velocity <;> simp [tryBegin, unknown, running, present]

theorem tryBegin_of_known {known : Nat} (acquiring : (s.channel n).voice.state = .acquiring)
    (present : (s.channel n).voice.velocity = some velocity)
    (pitched : (s.channel n).voice.currentPitch = some known) (start : (s.channel n).voice.startKind = some kind) :
    tryBegin n s = beginPitched n known kind velocity s := by
  simp [tryBegin, acquiring, present, pitched, start]

theorem tryBegin_of_expired (acquiring : (s.channel n).voice.state = .acquiring)
    (present : (s.channel n).voice.velocity = some velocity)
    (unknown : (s.channel n).voice.currentPitch = none) (expired : (s.channel n).voice.acqExpired = true) :
    tryBegin n s = beginUnpitched n velocity s := by
  simp [tryBegin, acquiring, present, unknown, expired]

end

/-! ## VELOCITY_COMPLETION -/

/-- The string with its velocity completed and handed to its voice, which is then this one. -/
def Channel.handedVelocity (w : Voice) (c : Channel) : Channel :=
  { c with detector := { c.detector with completion := none }, voice := w }

@[simp] theorem Channel.handedVelocity_voice (w : Voice) (c : Channel) : (c.handedVelocity w).voice = w := rfl

section
variable {n : Str} {s : State} {value : Nat}

theorem exec_velocityCompletion (h : s.modes.resetPinLow = false) (n : Str) :
    exec (.velocityCompletion n) s = .next (takeCompletion n s) :=
  congrArg Host.Outcome.next (State.live_of_released h _)

/-- A velocity that the voice ignores (R64). -/
theorem takeCompletion_ignored (completed : (s.channel n).detector.completion = some value)
    (ignores : ((s.channel n).voice.state ≠ .suspect ∧ (s.channel n).voice.state ≠ .acquiring)
      ∨ (s.channel n).voice.velocity ≠ none) :
    takeCompletion n s = s.mod n (Channel.handedVelocity (s.channel n).voice) := by
  have voice : ((modDetector n (fun c => { c.detector with completion := none }) s).channel n).voice
      = (s.channel n).voice := by rw [modDetector_channel]
  have untaken : (((s.channel n).voice.state = .suspect || (s.channel n).voice.state = .acquiring)
      && (s.channel n).voice.velocity.isNone) = false := by
    rcases ignores with ⟨notSuspect, notAcquiring⟩ | present
    · simp [notSuspect, notAcquiring]
    · simp [Option.isNone_eq_false_iff, Option.isSome_iff_ne_none, present]
  simp only [takeCompletion, completed, voiceCompletion, voice, untaken, Bool.false_eq_true, if_false]
  exact State.mod_congr rfl

/-- A velocity that the voice takes, with which its note may begin (R64, R70). -/
theorem takeCompletion_taken (completed : (s.channel n).detector.completion = some value)
    (attack : (s.channel n).voice.state = .suspect ∨ (s.channel n).voice.state = .acquiring)
    (absent : (s.channel n).voice.velocity = none) :
    takeCompletion n s = tryBegin n (s.mod n (Channel.handedVelocity
      { (s.channel n).voice with velocity := some (max value (s.channel n).voice.carried) })) := by
  have voice : ((modDetector n (fun c => { c.detector with completion := none }) s).channel n).voice
      = (s.channel n).voice := by rw [modDetector_channel]
  have takes : (((s.channel n).voice.state = .suspect || (s.channel n).voice.state = .acquiring)
      && (s.channel n).voice.velocity.isNone) = true := by simpa [absent] using attack
  simp only [takeCompletion, completed, voiceCompletion, voice, takes, if_true]
  rw [modDetector, State.mod_mod]
  exact congrArg (tryBegin n) (State.mod_congr rfl)

/-- The note begun with a velocity just taken. -/
theorem takenVelocity_begins {base velocity : Nat} {pitch : Option Nat} {offset : Int} {kind : StartKind}
    {flag : NoteFlag} {x : Option Nat} (lawful : (s.channel n).voice.Lawful)
    (acquiring : (s.channel n).voice.state = .acquiring) :
    let t := raiseLine n (beginNote n base pitch offset kind flag velocity
      (s.mod n (Channel.handedVelocity { (s.channel n).voice with velocity := x })))
    NoteFromAcquisition n base pitch offset kind flag velocity s t
      ∧ (t.channel n).detector = { (s.channel n).detector with completion := none }
      ∧ (t.channel n).capture = (s.channel n).capture := by
  obtain ⟨unreported, unfixed⟩ := lawful.unreported (by simp [acquiring])
  have channel : (s.mod n (Channel.handedVelocity { (s.channel n).voice with velocity := x })).channel n = _ :=
    State.channel_mod_self ..
  obtain ⟨note, detector, capture⟩ := raisedNote_fromAcquisition (n := n) (base := base) (pitch := pitch)
    (offset := offset) (kind := kind) (flag := flag) (velocity := velocity)
    (s := s.mod n (Channel.handedVelocity { (s.channel n).voice with velocity := x }))
    (by rw [channel]; exact unreported) (by rw [channel]; exact unfixed)
  rw [channel] at detector capture
  exact ⟨noteFromAcquisition_of_mod note rfl rfl rfl rfl, detector, capture⟩

end

/-- Settles O34, by whether the voice takes the velocity and what a note may then begin with. -/
theorem velocityIsTaken : Obligations.VelocityIsTaken := by
  intro n s released lawful
  rw [exec_velocityCompletion released]
  refine ⟨fun idle => congrArg _ (takeCompletion_of_none idle), fun value completed => ⟨fun ignores => ?_,
    fun absent waits => ?_, fun pitch kind flag acquiring absent known start named => ?_,
    fun acquiring absent unknown expired => ?_⟩⟩
  · rw [takeCompletion_ignored completed ignores]; rfl
  · have attack := waits.imp_right And.left
    rw [takeCompletion_taken completed attack absent]
    refine congrArg _ ?_
    rcases waits with suspect | ⟨-, unknown, running⟩
    · exact tryBegin_of_not_acquiring (by simp [suspect])
    · exact tryBegin_of_unknown (by simp [unknown]) (by simp [running])
  · have flagged : (if kind = .provisional then NoteFlag.provisional else .none) = flag := by
      rcases named with ⟨rfl, rfl⟩ | ⟨rfl, rfl⟩ <;> rfl
    refine ⟨_, rfl, ?_⟩
    rw [takeCompletion_taken completed (.inr acquiring) absent, tryBegin_of_known (kind := kind)
      (known := pitch) (velocity := max value (s.channel n).voice.carried)
      (by simp [acquiring]) (by simp) (by simp [known]) (by simp [start]), beginPitched, flagged]
    exact takenVelocity_begins lawful acquiring
  · refine ⟨_, rfl, ?_⟩
    rw [takeCompletion_taken completed (.inr acquiring) absent, tryBegin_of_expired
      (velocity := max value (s.channel n).voice.carried)
      (by simp [acquiring]) (by simp) (by simp [unknown]) (by simp [expired]), beginUnpitched,
      State.channel_mod_self]
    exact takenVelocity_begins lawful acquiring

end Sys2Proof.Machine
end

section
/-! What a judgement makes of the detector (R42 to R54): its first two steps, what its third finds, and the floor
window and the tracker at its end; with the statement of a judgement that brings no arrival. -/

namespace Sys2Proof.Machine

/-! ## The tracker and the floor window (R47, R53, R54) -/

/-- A judgement that starts the tracker leaves the detector as the spec writes an attack (R43, R46, R53). -/
theorem Detector.attack_eq (p : Profile) (reference : Nat) (clip : Bool) (envelope : Nat) {d : Detector}
    (judged : d.judgementDue = false) :
    (d.attack p reference clip envelope).keepFloor envelope
      = attackedDetector { p with velocityReference := reference } clip envelope d.rearmWait := by
  have value : (if clip then 127 else velocityOf reference envelope)
      = velocityValue { p with velocityReference := reference } clip envelope := rfl
  by_cases done : p.velocityWindow ≤ 1
  · have last : p.velocityWindow - 1 = 0 := by omega
    simp [attack, countFrame, completed, keepFloor, attackedDetector, done, last, judged, value]
  · have more : p.velocityWindow - 1 ≠ 0 := by omega
    simp [attack, countFrame, keepFloor, attackedDetector, done, more, judged]

/-- The tracker's step is the one the spec writes (R53, R54). -/
theorem Detector.track_eq (p : Profile) (clip : Bool) (envelope : Nat) (d : Detector) :
    d.track p clip envelope = trackedDetector p clip envelope d := by
  have value (mark : Bool) (peak : Nat) : (if mark then 127 else velocityOf p.velocityReference peak)
      = velocityValue p mark peak := rfl
  by_cases running : d.phase = .running
  · by_cases done : d.remaining ≤ 1
    · have last : d.remaining - 1 = 0 := by omega
      simp only [track, trackedDetector, running, countFrame, completed, last, done, if_true, value]
    · have more : d.remaining - 1 ≠ 0 := by omega
      simp only [track, trackedDetector, running, countFrame, more, done, if_true, if_false]
  · simp only [track, trackedDetector, running, if_false]

theorem Detector.keepFloor_of_opened {d : Detector} (opened : d.gate = .opened) (envelope : Nat) :
    d.keepFloor envelope
      = { d with floor := (d.floor ++ [envelope]).drop (d.floor.length + 1 - 16) } := by
  simp [keepFloor, opened]

theorem Detector.keepFloor_of_not_opened {d : Detector} (other : d.gate ≠ .opened) (envelope : Nat) :
    d.keepFloor envelope = d := by
  simp [keepFloor, other]

/-! ## Steps 1 and 2 (R42, R48, R49) -/

theorem Detector.tick_of_dip {d : Detector} (dip : d.gate = .dip) :
    d.tick = { d with judgementDue := false, refractory := d.refractory - 1, dipTimer := d.dipTimer + 1 } := by
  simp [tick, dip]

theorem Detector.tick_of_not_dip {d : Detector} (other : d.gate ≠ .dip) :
    d.tick = { d with judgementDue := false, refractory := d.refractory - 1 } := by
  simp [tick, other]

/-- The string after the first two steps of a judgement. -/
def Channel.ticked (c : Channel) : Channel := { c with detector := c.detector.tick }

@[simp] theorem Channel.ticked_active (c : Channel) : c.ticked.active = c.active := rfl
@[simp] theorem Channel.ticked_lane (c : Channel) : c.ticked.lane = c.lane := rfl
@[simp] theorem Channel.ticked_clip (c : Channel) : c.ticked.clip = c.clip := rfl
@[simp] theorem Channel.ticked_gate (c : Channel) : c.ticked.detector.gate = c.detector.gate := rfl
@[simp] theorem Channel.ticked_rearmWait (c : Channel) :
    c.ticked.detector.rearmWait = c.detector.rearmWait := rfl

theorem Channel.ticked_dipTimer {c : Channel} (dip : c.detector.gate = .dip) :
    c.ticked.detector.dipTimer = c.detector.dipTimer + 1 := by
  rw [ticked, Detector.tick_of_dip dip]

theorem judge_of_due {n : Str} {s : State} (due : (s.channel n).detector.judgementDue = true) :
    judge n s = actOn n (s.channel n).ticked.verdict (s.mod n Channel.ticked) := by
  have steps : modDetector n (fun c => c.detector.tick) s = s.mod n Channel.ticked := rfl
  simp only [judge, due, if_true, steps, State.channel_mod_self]

theorem judge_of_not_due {n : Str} {s : State} (judged : (s.channel n).detector.judgementDue = false) :
    judge n s = s := by
  simp [judge, judged]

theorem exec_articulationJudgement {s : State} (h : s.modes.resetPinLow = false) (n : Str) :
    exec (.articulationJudgement n) s = .next (judge n s) :=
  congrArg Host.Outcome.next (State.live_of_released h _)

/-! ## Step 3 under a CLOSED gate (R43, R44) -/

section
variable {c : Channel}

theorem Channel.verdict_clearsWait (closed : c.detector.gate = .closed) (waits : c.detector.rearmWait = true)
    (low : c.lane.envelope < c.active.offThreshold) : c.ticked.verdict = .clearsWait := by
  simp [verdict, closed, waits, low]

theorem Channel.verdict_waits (closed : c.detector.gate = .closed) (waits : c.detector.rearmWait = true)
    (reached : c.active.offThreshold ≤ c.lane.envelope) : c.ticked.verdict = .stays := by
  simp [verdict, closed, waits, Nat.not_lt.mpr reached]

theorem Channel.verdict_silence (closed : c.detector.gate = .closed) (ready : c.detector.rearmWait = false)
    (low : c.lane.envelope < c.active.onThreshold) : c.ticked.verdict = .stays := by
  simp [verdict, closed, ready, Nat.not_le.mpr low]

theorem Channel.verdict_onset (closed : c.detector.gate = .closed) (ready : c.detector.rearmWait = false)
    (reached : c.active.onThreshold ≤ c.lane.envelope) : c.ticked.verdict = .onset := by
  simp [verdict, closed, ready, reached]

/-! ## Step 3 under an OPEN gate (R45 to R47) -/

/-- A surge looks back over a window of at least one level (R46). -/
theorem window_of_surges (surges : Surges c) : 1 ≤ c.active.surgeWindow := by
  obtain ⟨-, -, -, -, ⟨level, member, -⟩, -⟩ := surges
  by_contra none
  have dropped : c.detector.floor.drop (c.detector.floor.length - c.active.surgeWindow) = [] :=
    List.drop_eq_nil_of_le (by omega)
  rw [dropped] at member
  cases member

/-- The surge test of a judgement is the one the spec writes (R46). -/
theorem Channel.ticked_surges_iff (window : 1 ≤ c.active.surgeWindow) :
    c.ticked.surges = true ↔ Surges c := by
  have floor : c.ticked.detector.floor = c.detector.floor := rfl
  have refractory : c.ticked.detector.refractory = c.detector.refractory - 1 := rfl
  have ran : c.detector.refractory - 1 = 0 ↔ c.detector.refractory ≤ 1 := by omega
  simp only [surges, Surges, ticked_active, ticked_lane, ticked_clip, floor, refractory, Bool.and_eq_true,
    Bool.not_eq_true', bne_iff_ne, beq_iff_eq, decide_eq_true_eq, ran, and_assoc]
  refine and_congr_right fun _ => and_congr_right fun _ => and_congr_right fun _ => and_congr_right fun filled => ?_
  rw [floorOf_mul_le window filled]
  exact and_congr_right fun _ => decide_eq_true_iff

theorem Channel.verdict_entersDip (opened : c.detector.gate = .opened)
    (low : c.lane.envelope < c.active.offThreshold) : c.ticked.verdict = .entersDip := by
  simp [verdict, opened, low]

theorem Channel.verdict_surge (opened : c.detector.gate = .opened)
    (reached : c.active.offThreshold ≤ c.lane.envelope) (surges : Surges c) : c.ticked.verdict = .surge := by
  have found := (ticked_surges_iff (window_of_surges surges)).mpr surges
  simp [verdict, opened, Nat.not_lt.mpr reached, found]

theorem Channel.verdict_sustains (opened : c.detector.gate = .opened)
    (reached : c.active.offThreshold ≤ c.lane.envelope) (window : 1 ≤ c.active.surgeWindow)
    (calm : ¬Surges c) : c.ticked.verdict = .stays := by
  have found := mt (ticked_surges_iff window).mp calm
  simp [verdict, opened, Nat.not_lt.mpr reached, found]

/-! ## Step 3 under a DIP gate (R49 to R52) -/

theorem Channel.verdict_flutter (dip : c.detector.gate = .dip) (reached : c.active.onThreshold ≤ c.lane.envelope)
    (short : c.detector.dipTimer + 1 < c.active.dipMin) : c.ticked.verdict = .flutter := by
  simp [verdict, dip, reached, ticked_dipTimer dip, short]

theorem Channel.verdict_restrike (dip : c.detector.gate = .dip)
    (reached : c.active.onThreshold ≤ c.lane.envelope) (long : c.active.dipMin ≤ c.detector.dipTimer + 1)
    (within : c.detector.dipTimer + 1 ≤ c.active.dipMax) : c.ticked.verdict = .restrike := by
  simp [verdict, dip, reached, ticked_dipTimer dip, Nat.not_lt.mpr long, within]

theorem Channel.verdict_releaseOnset (dip : c.detector.gate = .dip)
    (reached : c.active.onThreshold ≤ c.lane.envelope) (long : c.active.dipMin ≤ c.detector.dipTimer + 1)
    (late : c.active.dipMax < c.detector.dipTimer + 1) : c.ticked.verdict = .releaseOnset := by
  simp [verdict, dip, reached, ticked_dipTimer dip, Nat.not_lt.mpr long, Nat.not_le.mpr late]

theorem Channel.verdict_release (dip : c.detector.gate = .dip) (low : c.lane.envelope < c.active.onThreshold)
    (held : 4 * 2 ^ c.active.releaseHoldCode ≤ c.detector.dipTimer + 1) : c.ticked.verdict = .release := by
  simp [verdict, dip, Nat.not_le.mpr low, ticked_dipTimer dip, releaseHold, held]

theorem Channel.verdict_dips (dip : c.detector.gate = .dip) (low : c.lane.envelope < c.active.onThreshold)
    (short : c.detector.dipTimer + 1 < 4 * 2 ^ c.active.releaseHoldCode) : c.ticked.verdict = .stays := by
  simp [verdict, dip, Nat.not_le.mpr low, ticked_dipTimer dip, releaseHold, short]

end

/-! ## Judgements with no arrival -/

section
variable {n : Str} {s : State}

/-- The string with another detector. -/
def Channel.withDetector (d : Detector) (c : Channel) : Channel := { c with detector := d }

@[simp] theorem Channel.withDetector_active (d : Detector) (c : Channel) :
    (c.withDetector d).active = c.active := rfl
@[simp] theorem Channel.withDetector_voice (d : Detector) (c : Channel) :
    (c.withDetector d).voice = c.voice := rfl

/-- The end of a judgement that did not start the tracker, on a string whose detector has become `d`. -/
theorem finishJudgement_eq {f : Channel → Channel} {d : Detector}
    (changed : f (s.channel n) = (s.channel n).withDetector d) :
    finishJudgement n (s.mod n f) = s.mod n (Channel.withDetector
      (trackedDetector (s.channel n).active (s.channel n).clip.active (s.channel n).lane.envelope
        (d.keepFloor (s.channel n).lane.envelope))) := by
  rw [finishJudgement, modDetector, State.mod_mod]
  refine State.mod_congr ?_
  rw [changed, Detector.track_eq]
  rfl

/-- A judgement that finds nothing keeps the floor window and the tracker going. -/
theorem judge_stays (due : (s.channel n).detector.judgementDue = true)
    (found : (s.channel n).ticked.verdict = .stays) {d : Detector}
    (kept : (s.channel n).detector.tick.keepFloor (s.channel n).lane.envelope = d) :
    judge n s = s.mod n (Channel.withDetector
      (trackedDetector (s.channel n).active (s.channel n).clip.active (s.channel n).lane.envelope d)) := by
  rw [judge_of_due due, found, ← kept]
  exact finishJudgement_eq rfl

/-- A judgement whose gate goes to DIP, or back to OPEN, empties the floor window first (R47, R49, R50). -/
theorem judge_regates (due : (s.channel n).detector.judgementDue = true) {gate : Gate} {d : Detector}
    (found : (s.channel n).ticked.verdict = .entersDip ∧ gate = .dip
      ∨ (s.channel n).ticked.verdict = .flutter ∧ gate = .opened)
    (kept : ({ (s.channel n).detector.tick with gate := gate, dipTimer := 0, floor := [] } : Detector).keepFloor
      (s.channel n).lane.envelope = d) :
    judge n s = s.mod n (Channel.withDetector
      (trackedDetector (s.channel n).active (s.channel n).clip.active (s.channel n).lane.envelope d)) := by
  rw [judge_of_due due, ← kept]
  rcases found with ⟨found, rfl⟩ | ⟨found, rfl⟩
  all_goals
    rw [found]
    dsimp only [actOn, modDetector]
    rw [State.mod_mod]
    exact finishJudgement_eq rfl

/-- Settles O44, by what step 3 of the judgement finds under each gate. -/
theorem judgementMakesNoArrival : Obligations.JudgementMakesNoArrival := by
  intro n s released
  dsimp only
  rw [exec_articulationJudgement released]
  refine ⟨fun judged => congrArg _ (judge_of_not_due judged), fun due =>
    ⟨fun closed waits low => congrArg _ ?_, fun closed waits reached => congrArg _ ?_,
      fun closed ready low => congrArg _ ?_, fun opened low => congrArg _ ?_,
      fun opened reached window calm => congrArg _ ?_, fun dip reached short => congrArg _ ?_,
      fun dip low short => congrArg _ ?_⟩⟩
  · rw [judge_of_due due, Channel.verdict_clearsWait closed waits low, actOn]
    dsimp only
    rw [modDetector, State.mod_mod]
    refine State.mod_congr ?_
    rw [Channel.ticked, Detector.tick_of_not_dip (by simp [closed])]
  · refine judge_stays due (Channel.verdict_waits closed waits reached) ?_
    rw [Detector.tick_of_not_dip (by simp [closed]), Detector.keepFloor_of_not_opened (by simp [closed])]
  · refine judge_stays due (Channel.verdict_silence closed ready low) ?_
    rw [Detector.tick_of_not_dip (by simp [closed]), Detector.keepFloor_of_not_opened (by simp [closed])]
  · refine judge_regates due (.inl ⟨Channel.verdict_entersDip opened low, rfl⟩) ?_
    rw [Detector.tick_of_not_dip (by simp [opened]), Detector.keepFloor_of_not_opened (by simp)]
  · refine judge_stays due (Channel.verdict_sustains opened reached window calm) ?_
    rw [Detector.tick_of_not_dip (by simp [opened]), Detector.keepFloor_of_opened (by simp [opened])]
  · refine judge_regates due (.inr ⟨Channel.verdict_flutter dip reached short, rfl⟩) ?_
    rw [Detector.tick_of_dip dip, Detector.keepFloor_of_opened rfl]
    rfl
  · refine judge_stays due (Channel.verdict_dips dip low short) ?_
    rw [Detector.tick_of_dip dip, Detector.keepFloor_of_not_opened (by simp [dip])]

end

end Sys2Proof.Machine
end

section
/-! What an ONSET and a RESTRIKE make of a voice (R65, R68, R72, R80), and the statements of the judgements that
bring them. -/

namespace Sys2Proof.Machine

/-! ## A voice that takes an attack -/

/-- A voice that is not MUTED holds nothing from its note, once that is ended, in the state it enters. -/
theorem Voice.Lawful.ended_entering {v : Voice} (l : v.Lawful) (notMuted : v.state ≠ .muted) (st : VoiceState) :
    ({ v with reported := false, fix := false } : Voice).entering st = bareVoice st v := by
  obtain ⟨damp, openCause⟩ := l.unmuted notMuted
  simp [entering, bareVoice, Voice.reset, damp, openCause]

/-- A voice that is neither SOUNDING nor MUTED brings nothing into the state it enters. -/
theorem Voice.Lawful.entering_bare {v : Voice} (l : v.Lawful) (notSounding : v.state ≠ .sounding)
    (notMuted : v.state ≠ .muted) (st : VoiceState) : v.entering st = bareVoice st v := by
  obtain ⟨unreported, unfixed⟩ := l.unreported notSounding
  rw [← l.ended_entering notMuted, unreported_eq_self unreported unfixed]

/-- The string as its voice takes an attack with this result of the bleed test: the ring restarted, and the
voice ACQUIRING on a pass, SUSPECT with the bleed window at 0 on a fail (R35, R65, R102). -/
def Channel.takesAttack (pass : Bool) (carried : Nat) (c : Channel) : Channel :=
  { c with
    capture := restartedRing c.active c.capture
    bleed := ⟨if pass then none else some 0, false⟩
    reporter := .absent
    voice := if pass then acquiringVoice none carried c.voice
      else { bareVoice .suspect c.voice with carried := carried } }

/-- The ring restarted and the voice's state entered are that attack, where the voice brings nothing into it. -/
theorem restartRing_takesAttack {n : Str} {s : State} {v : Voice}
    (bare : ∀ st, (s.channel n).voice.entering st = bareVoice st v) (pass : Bool) (carried : Nat) :
    (restartRing n 0 s).mod n (if pass then .acquiring none carried else .suspecting none carried)
      = s.mod n fun c => ({ c with voice := v } : Channel).takesAttack pass carried := by
  rw [restartRing, State.mod_mod]
  refine State.mod_congr ?_
  cases pass
  · simp only [Bool.false_eq_true, if_false, Channel.suspecting, Channel.entering, bare]; rfl
  · simp only [if_true, Channel.acquiring, Channel.entering, bare]; rfl

/-- The bleed test looks at no more of its own string than the profile, the envelope and the voice's state. -/
theorem bleedPasses_mod {n : Str} {s : State} {f : Channel → Channel}
    (active : (f (s.channel n)).active = (s.channel n).active)
    (envelope : (f (s.channel n)).lane.envelope = (s.channel n).lane.envelope)
    (state : (f (s.channel n)).voice.state = (s.channel n).voice.state) :
    bleedPasses (s.mod n f) n = bleedPasses s n := by
  have source (m : Str) : ((s.mod n f).channel m).voice.counts = (s.channel m).voice.counts
      ∧ ((s.mod n f).channel m).lane.envelope = (s.channel m).lane.envelope := by
    rw [State.channel_mod]
    split
    · next same => subst same; exact ⟨by rw [Voice.counts, state]; rfl, envelope⟩
    · exact ⟨rfl, rfl⟩
  simp only [bleedPasses, source, State.channel_mod_self, active, envelope]

/-! ## The arrivals -/

section
variable {n : Str} {s : State}

/-- An ONSET at a QUIET voice (R65). -/
theorem voiceOnset_of_quiet (quiet : (s.channel n).voice.state = .quiet) {v : Voice}
    (bare : ∀ st, (s.channel n).voice.entering st = bareVoice st v) :
    voiceOnset n false s
      = s.mod n fun c => ({ c with voice := v } : Channel).takesAttack (bleedPasses s n) 0 := by
  simp only [voiceOnset, quiet, if_true]
  exact restartRing_takesAttack bare _ 0

/-- An ONSET elsewhere (R61, R86). -/
theorem voiceOnset_of_not_quiet (other : (s.channel n).voice.state ≠ .quiet) (wakeMark : Bool) :
    voiceOnset n wakeMark s = s := by
  simp [voiceOnset, other]

variable (prior : Nat)

/-- A RESTRIKE in SUSPECT (R68). -/
theorem voiceRestrike_of_suspect (lawful : (s.channel n).voice.Lawful)
    (suspect : (s.channel n).voice.state = .suspect) :
    voiceRestrike n prior s = s.mod n (Channel.takesAttack (bleedPasses s n)
      ((s.channel n).voice.folded (s.channel n).active.velocityReference prior)) := by
  simp only [voiceRestrike, suspect]
  exact (restartRing_takesAttack (lawful.entering_bare (by simp [suspect]) (by simp [suspect])) _ _).trans
    (State.mod_congr rfl)

/-- A RESTRIKE in SILENT (R84). -/
theorem voiceRestrike_of_silent (lawful : (s.channel n).voice.Lawful)
    (silent : (s.channel n).voice.state = .silent) :
    voiceRestrike n prior s = s.mod n (Channel.takesAttack (bleedPasses s n) 0) := by
  simp only [voiceRestrike, silent]
  exact (restartRing_takesAttack (lawful.entering_bare (by simp [silent]) (by simp [silent])) _ _).trans
    (State.mod_congr rfl)

/-- A RESTRIKE in ACQUIRING that passes starts it anew (R72). -/
theorem voiceRestrike_of_acquiring_pass (lawful : (s.channel n).voice.Lawful)
    (acquiring : (s.channel n).voice.state = .acquiring) (pass : bleedPasses s n = true) :
    voiceRestrike n prior s = s.mod n (Channel.takesAttack true
      ((s.channel n).voice.folded (s.channel n).active.velocityReference prior)) := by
  simp only [voiceRestrike, acquiring, pass, if_true]
  exact (restartRing_takesAttack (lawful.entering_bare (by simp [acquiring]) (by simp [acquiring])) true _).trans
    (State.mod_congr rfl)

/-- A RESTRIKE in ACQUIRING that fails leaves the velocity to be carried (R72). -/
theorem voiceRestrike_of_acquiring_fail (acquiring : (s.channel n).voice.state = .acquiring)
    (fail : bleedPasses s n = false) :
    voiceRestrike n prior s = s.mod n (.modVoice fun v => { v with
      carried := (s.channel n).voice.folded (s.channel n).active.velocityReference prior
      velocity := none }) := by
  simp [voiceRestrike, acquiring, fail]

/-- A RESTRIKE in SOUNDING that passes ends the note (R80). -/
theorem voiceRestrike_of_sounding_pass (lawful : (s.channel n).voice.Lawful)
    (sounding : (s.channel n).voice.state = .sounding) (pass : bleedPasses s n = true) :
    voiceRestrike n prior s = (endNote n .restrike s).mod n fun c =>
      ({ c with voice := (s.channel n).voice } : Channel).takesAttack true 0 := by
  simp only [voiceRestrike, sounding, pass, if_true]
  refine restartRing_takesAttack (fun st => ?_) true 0
  rw [endNote_channel lawful]
  exact lawful.ended_entering (by simp [sounding]) st

/-- A RESTRIKE in SOUNDING that fails (R80). -/
theorem voiceRestrike_of_sounding_fail (sounding : (s.channel n).voice.state = .sounding)
    (fail : bleedPasses s n = false) : voiceRestrike n prior s = s := by
  simp [voiceRestrike, sounding, fail]

/-- A RESTRIKE in QUIET or MUTED (R86). -/
theorem voiceRestrike_of_calm (calm : (s.channel n).voice.state = .quiet ∨ (s.channel n).voice.state = .muted) :
    voiceRestrike n prior s = s := by
  rcases calm with calm | calm <;> simp [voiceRestrike, calm]

end

/-! ## A note that ends within the event -/

section
variable {n : Str} {s : State} {reason : OffReason}

theorem endNote_ended (n : Str) (reason : OffReason) (s : State) : NoteEnded n reason s (endNote n reason s) where
  reported reported :=
    let ⟨admitted, reserved, _⟩ := offerNoteOff_reported reported reason
    ⟨admitted, reserved⟩
  unreported unreported := by
    rw [endNote, offerNoteOff_unreported unreported]
    exact ⟨rfl, rfl⟩
  line := endNote_line n reason s

/-- A note's end is told by the string as it was before its other blocks changed in the same event. -/
theorem noteEnded_of_mod {t : State} {f : Channel → Channel} (ended : NoteEnded n reason (s.mod n f) t)
    (voice : (f (s.channel n)).voice = (s.channel n).voice)
    (line : (f (s.channel n)).gateLine = (s.channel n).gateLine) : NoteEnded n reason s t := by
  obtain ⟨reported, unreported, lowered⟩ := ended
  rw [State.channel_mod_self, voice] at reported unreported
  rw [State.channel_mod_self, line] at lowered
  exact ⟨reported, unreported, lowered⟩

/-- A note stays ended where the string changes behind it with its line as it is. -/
theorem noteEnded_mod {t : State} {f : Channel → Channel} (ended : NoteEnded n reason s t)
    (line : (f (t.channel n)).gateLine = (t.channel n).gateLine) : NoteEnded n reason s (t.mod n f) :=
  ⟨ended.reported, ended.unreported, by rw [State.channel_mod_self, line]; exact ended.line⟩

end

/-! ## The judgement -/

/-- The string as the judgement that starts the tracker leaves its detector, under this velocity reference. -/
def Channel.struck (reference : Nat) (c : Channel) : Channel :=
  c.withDetector (attackedDetector { c.active with velocityReference := reference } c.clip.active
    c.lane.envelope c.detector.rearmWait)

@[simp] theorem Channel.struck_voice (reference : Nat) (c : Channel) : (c.struck reference).voice = c.voice := rfl

section
variable {n : Str} {s : State}

/-- The detector's part of an attack, whatever arrives at the voice. -/
theorem attackGate_eq {f : Channel → Channel} (judged : (f (s.channel n)).detector.judgementDue = false)
    (reference : Nat) (arrive : State → State) :
    attackGate n reference arrive (s.mod n f) = arrive (s.mod n fun c => (f c).struck reference) := by
  rw [attackGate, modDetector, State.mod_mod]
  refine congrArg arrive (State.mod_congr ?_)
  rw [Detector.attack_eq _ _ _ _ judged]
  rfl

/-- The detector's part of an attack of a judgement under the profile it began with. -/
theorem attackGate_ticked (arrive : State → State) :
    attackGate n (s.channel n).active.velocityReference arrive (s.mod n Channel.ticked)
      = arrive (s.mod n (Channel.struck (s.channel n).active.velocityReference)) :=
  attackGate_eq rfl _ arrive

theorem judge_onset (due : (s.channel n).detector.judgementDue = true)
    (found : (s.channel n).ticked.verdict = .onset) :
    judge n s
      = voiceOnset n false (s.mod n (Channel.struck (s.channel n).active.velocityReference)) := by
  rw [judge_of_due due, found]
  simp only [actOn, State.channel_mod_self, Channel.ticked_active]
  exact attackGate_ticked _

theorem judge_restrike (due : (s.channel n).detector.judgementDue = true)
    (found : (s.channel n).ticked.verdict = .restrike ∨ (s.channel n).ticked.verdict = .surge) :
    judge n s = voiceRestrike n (s.channel n).detector.priorPeak
      (s.mod n (Channel.struck (s.channel n).active.velocityReference)) := by
  rw [judge_of_due due]
  rcases found with found | found
  all_goals
    simp only [found, actOn, State.channel_mod_self, Channel.ticked_active]
    exact attackGate_ticked _

theorem struck_bleedPasses (reference : Nat) :
    bleedPasses (s.mod n (Channel.struck reference)) n = bleedPasses s n :=
  bleedPasses_mod rfl rfl rfl

end

/-- Settles O43, by the state in which the ONSET finds the voice and the bleed test of that instant. -/
theorem judgementMakesAnOnset : Obligations.JudgementMakesAnOnset := by
  intro n s released
  dsimp only
  intro lawful due closed ready reached
  rw [exec_articulationJudgement released, judge_onset due (Channel.verdict_onset closed ready reached)]
  have taken (quiet : (s.channel n).voice.state = .quiet) :
      voiceOnset n false (s.mod n (Channel.struck (s.channel n).active.velocityReference))
        = s.mod n fun c => (c.struck (s.channel n).active.velocityReference).takesAttack
            (bleedPasses s n) 0 := by
    rw [voiceOnset_of_quiet (v := (s.channel n).voice) (by simp [quiet])
      (by simpa using lawful.entering_bare (by simp [quiet]) (by simp [quiet])),
      struck_bleedPasses, State.mod_mod]
    exact State.mod_congr rfl
  refine ⟨fun quiet pass => congrArg _ ?_, fun quiet fail => congrArg _ ?_, fun other => congrArg _ ?_⟩
  · rw [taken quiet, pass]
    exact State.mod_congr (by rw [Channel.struck, ready]; rfl)
  · rw [taken quiet, fail]
    exact State.mod_congr (by rw [Channel.struck, ready]; rfl)
  · rw [voiceOnset_of_not_quiet (by simpa using other)]
    exact State.mod_congr (by rw [Channel.struck, ready]; rfl)

/-- Settles O45, by the state in which the RESTRIKE finds the voice and the bleed test of that instant. -/
theorem judgementMakesARestrike : Obligations.JudgementMakesARestrike := by
  intro n s released
  dsimp only
  intro lawful due strikes
  have found : (s.channel n).ticked.verdict = .restrike ∨ (s.channel n).ticked.verdict = .surge := by
    rcases strikes with ⟨dip, reached, long, within⟩ | ⟨opened, reached, surges⟩
    · exact .inl (Channel.verdict_restrike dip reached long within)
    · exact .inr (Channel.verdict_surge opened reached surges)
  rw [exec_articulationJudgement released, judge_restrike due found]
  set u := s.mod n (Channel.struck (s.channel n).active.velocityReference) with struck
  have channel : u.channel n = (s.channel n).struck (s.channel n).active.velocityReference :=
    State.channel_mod_self ..
  have voice : (u.channel n).voice = (s.channel n).voice := by rw [channel]; rfl
  have active : (u.channel n).active = (s.channel n).active := by rw [channel]; rfl
  have tested : bleedPasses u n = bleedPasses s n := struck_bleedPasses _
  have lawful : (u.channel n).voice.Lawful := voice ▸ lawful
  refine ⟨fun pass => ⟨fun attack => congrArg _ ?_, fun silent => congrArg _ ?_, fun sounding =>
      ⟨_, rfl, ?_⟩⟩,
    fun fail => ⟨fun suspect => congrArg _ ?_, fun silent => congrArg _ ?_, fun acquiring => congrArg _ ?_,
      fun sounding => congrArg _ ?_⟩, fun calm => congrArg _ ?_⟩
  · have taken : voiceRestrike n (s.channel n).detector.priorPeak u = u.mod n (Channel.takesAttack true
        ((s.channel n).voice.folded (s.channel n).active.velocityReference (s.channel n).detector.priorPeak)) := by
      rw [← voice, ← active]
      rcases attack with suspect | acquiring
      · rw [voiceRestrike_of_suspect _ lawful (by rw [voice, suspect]), tested, pass]
      · rw [voiceRestrike_of_acquiring_pass _ lawful (by rw [voice, acquiring]) (tested.trans pass)]
    rw [taken, struck, State.mod_mod]
    exact State.mod_congr rfl
  · rw [voiceRestrike_of_silent _ lawful (by rw [voice, silent]), tested, pass, struck, State.mod_mod]
    exact State.mod_congr rfl
  · have only := voiceRestrike_onlyString n (s.channel n).detector.priorPeak u
    rw [voiceRestrike_of_sounding_pass _ lawful (by rw [voice, sounding]) (tested.trans pass)] at only ⊢
    refine ⟨(mod_onlyString s n _).trans only,
      noteEnded_mod (noteEnded_of_mod (endNote_ended n .restrike u) rfl rfl) rfl, ?_⟩
    rw [State.channel_mod_self, endNote_channel lawful, channel]
    exact ⟨rfl, rfl, rfl, rfl, rfl⟩
  · rw [voiceRestrike_of_suspect _ lawful (by rw [voice, suspect]), tested, fail, voice, active, struck,
      State.mod_mod]
    exact State.mod_congr rfl
  · rw [voiceRestrike_of_silent _ lawful (by rw [voice, silent]), tested, fail, struck, State.mod_mod]
    exact State.mod_congr rfl
  · rw [voiceRestrike_of_acquiring_fail _ (by rw [voice, acquiring]) (tested.trans fail), voice, active, struck,
      State.mod_mod]
    exact State.mod_congr rfl
  · rw [voiceRestrike_of_sounding_fail _ (by rw [voice, sounding]) (tested.trans fail)]
    exact State.mod_congr rfl
  · rw [voiceRestrike_of_calm _ (by rwa [voice])]
    exact State.mod_congr rfl

end Sys2Proof.Machine
end

section
/-! What a RELEASE makes of a string (R51, R52, R65, R144), the ONSET of a late strike behind it, and their
statement. -/

namespace Sys2Proof.Machine

/-! ## A string whose voice enters QUIET -/

/-- The profile in force once the voice has entered QUIET (R144). -/
def Channel.nextProfile (c : Channel) : Profile := if c.pendingFlag = true then c.staged else c.active

section
variable {c : Channel}

theorem Channel.toQuiet_kept (kept : c.pendingFlag = false) (damped : Bool) :
    c.toQuiet damped = c.entering .quiet := by
  simp [toQuiet, kept]

theorem Channel.toQuiet_commits (pending : c.pendingFlag = true) (damped : Bool) :
    c.toQuiet damped = (c.entering .quiet).commit damped := by
  simp [toQuiet, pending]

theorem Channel.commit_detector (c : Channel) (damped : Bool) :
    (c.commit damped).detector = c.detector.commit c.staged := by
  unfold commit
  dsimp only
  split
  · split <;> rfl
  · rfl

theorem Channel.toQuiet_profile (c : Channel) (damped : Bool) :
    (c.toQuiet damped).active = c.nextProfile ∧ (c.toQuiet damped).pendingFlag = false := by
  cases pending : c.pendingFlag
  · rw [toQuiet_kept pending]
    exact ⟨(if_neg (by simp [pending])).symm, pending⟩
  · rw [toQuiet_commits pending]
    obtain ⟨active, cleared⟩ := commit_active (c.entering .quiet) damped
    exact ⟨active.trans (if_pos pending).symm, cleared⟩

theorem Channel.toQuiet_gate (c : Channel) (damped : Bool) :
    (c.toQuiet damped).detector.gate = c.detector.gate := by
  cases pending : c.pendingFlag
  · rw [toQuiet_kept pending]; rfl
  · rw [toQuiet_commits pending, commit_detector, Detector.commit_gate]; rfl

/-- The voice of an enabled string that enters QUIET is QUIET, whatever it commits (R65, R89, R93). -/
theorem Channel.toQuiet_voice (enabled : c.active.enabled = true) {v : Voice}
    (bare : c.voice.entering .quiet = bareVoice .quiet v) (damped : Bool) :
    (c.toQuiet damped).voice = bareVoice .quiet v := by
  cases pending : c.pendingFlag
  · rw [toQuiet_kept pending]; exact bare
  · rw [toQuiet_commits pending]
    cases enables : c.staged.enabled
    · rw [(commit_of_disabling (c := c.entering .quiet) enables damped).1]
      exact (congrArg (fun w : Voice => { w.entering .quiet with damp := false, openCause := false }) bare).trans rfl
    · rw [commit_of_enabled (c := c.entering .quiet) enabled enables]
      exact bare

/-- A commit does not touch the envelope (R16). -/
theorem Lane.commit_envelope (old new : Profile) (l : Lane) : (l.commit old new).envelope = l.envelope := by
  unfold commit
  dsimp only
  split <;> rfl

/-- What an ONSET looks at stands on a string that stays enabled as its voice enters QUIET. -/
theorem Channel.toQuiet_heard (enabled : c.active.enabled = true) (stays : c.nextProfile.enabled = true)
    (damped : Bool) :
    (c.toQuiet damped).lane.envelope = c.lane.envelope ∧ (c.toQuiet damped).clip = c.clip
      ∧ (c.toQuiet damped).detector.rearmWait = c.detector.rearmWait
      ∧ (c.toQuiet damped).detector.judgementDue = c.detector.judgementDue := by
  cases pending : c.pendingFlag
  · rw [toQuiet_kept pending]; exact ⟨rfl, rfl, rfl, rfl⟩
  · have enables : c.staged.enabled = true := by simpa [nextProfile, pending] using stays
    rw [toQuiet_commits pending, commit_of_enabled (c := c.entering .quiet) enabled enables]
    refine ⟨Lane.commit_envelope .., rfl, ?_, ?_⟩ <;>
      simp [entering, Detector.commit, enables, Detector.quieted, Detector.idleTracker]

end

/-! ## RELEASE -/

/-- The string with its note, if any, ended: its voice unreported, and its line fallen where it sounded. -/
def Channel.noteOver (fresh : Bool) (c : Channel) : Channel :=
  { c with
    voice := { c.voice with reported := false, fix := false }
    gateLine := if c.voice.state = .sounding then
        { c.gateLine with high := false, drop := some 0, checkDue := false, fresh := fresh }
      else c.gateLine }

/-- What a RELEASE leaves of a voice that holds an attack, with the detector as it closed the gate. -/
structure Released (d : Detector) (n : Str) (s t : State) : Prop where
  only : OnlyString n s t
  channel : t.channel n
    = (((s.channel n).withDetector d).noteOver s.atFrameEnd).toQuiet s.mute.inForce
  reported : (s.channel n).voice.reported = true →
    Admitted s t [.noteOff n (s.channel n).voice.serial .release]
      ∧ t.queue.reserved = s.queue.reserved - (s.channel n).voice.slots
  unreported : (s.channel n).voice.reported = false → t.queue = s.queue ∧ t.backlog = s.backlog

/-- The detector with its gate closed by a RELEASE at a judgement (R51, R52). -/
def Detector.closes (d : Detector) : Detector :=
  { d with
    gate := .closed, dipTimer := 0, refractory := d.refractory - 1, judgementDue := false, phase := .idle
    peak := 0, remaining := 0, clipMark := false, velocity := none, completion := none }

section
variable {n : Str} {s : State}

/-- The gate closes at a judgement. -/
theorem releaseGate_ticked (n : Str) (s : State) :
    releaseGate n (s.mod n Channel.ticked)
      = voiceRelease n (s.mod n (Channel.withDetector (s.channel n).detector.closes)) := by
  rw [releaseGate, modDetector, State.mod_mod]
  exact congrArg (voiceRelease n) (State.mod_congr rfl)

theorem voiceRelease_of_calm (calm : (s.channel n).voice.state = .quiet ∨ (s.channel n).voice.state = .muted) :
    voiceRelease n s = s := by
  rcases calm with calm | calm <;> simp [voiceRelease, calm]

theorem voiceRelease_of_attack (attack : (s.channel n).voice.state = .suspect
      ∨ (s.channel n).voice.state = .acquiring ∨ (s.channel n).voice.state = .silent) :
    voiceRelease n s = enterQuiet n s := by
  rcases attack with attack | attack | attack <;> simp [voiceRelease, attack]

theorem voiceRelease_of_sounding (sounding : (s.channel n).voice.state = .sounding) :
    voiceRelease n s = enterQuiet n (endNote n .release s) := by
  simp [voiceRelease, sounding]

/-- A voice that is neither QUIET nor MUTED sounds or holds an attack. -/
theorem VoiceState.sounding_or_attack {st : VoiceState} (notQuiet : st ≠ .quiet) (notMuted : st ≠ .muted) :
    st = .sounding ∨ st = .suspect ∨ st = .acquiring ∨ st = .silent := by
  cases st <;> simp_all

theorem Channel.noteOver_of_not_sounding {c : Channel} (lawful : c.voice.Lawful)
    (notSounding : c.voice.state ≠ .sounding) (fresh : Bool) : c.noteOver fresh = c := by
  obtain ⟨unreported, unfixed⟩ := lawful.unreported notSounding
  rw [noteOver, Voice.unreported_eq_self unreported unfixed, if_neg notSounding]

theorem voiceRelease_released (lawful : (s.channel n).voice.Lawful)
    (notQuiet : (s.channel n).voice.state ≠ .quiet) (notMuted : (s.channel n).voice.state ≠ .muted) :
    Released (s.channel n).detector n s (voiceRelease n s) := by
  have only := voiceRelease_onlyString n s
  rcases VoiceState.sounding_or_attack notQuiet notMuted with sounding | attack
  · rw [voiceRelease_of_sounding sounding] at only ⊢
    obtain ⟨reported, unreported, -⟩ := endNote_ended n .release s
    refine ⟨only, ?_, fun told => ?_, fun untold => ?_⟩
    · rw [enterQuiet_channel, endNote_channel lawful, (endNote_onlyString n .release s).outside.mute,
        Channel.noteOver, if_pos (by exact sounding)]
      rfl
    · obtain ⟨admitted, reserved⟩ := reported told
      rw [enterQuiet_eq]
      refine ⟨admitted, reserved.trans ?_⟩
      rw [Voice.slots, told]
      cases (s.channel n).voice.fix <;> rfl
    · rw [enterQuiet_eq]; exact unreported untold
  · have notSounding : (s.channel n).voice.state ≠ .sounding := by
      rcases attack with attack | attack | attack <;> simp [attack]
    rw [voiceRelease_of_attack attack] at only ⊢
    refine ⟨only, ?_, fun told => absurd (lawful.reported told) notSounding, fun _ => ?_⟩
    · rw [enterQuiet_channel]
      exact congrArg _ (Channel.noteOver_of_not_sounding lawful notSounding _).symm
    · rw [enterQuiet_eq]; exact ⟨rfl, rfl⟩

end

section
variable {d : Detector} {n : Str} {s t : State}

/-- A RELEASE is told by the string as it was before its gate closed. -/
theorem voiceRelease_closing (lawful : (s.channel n).voice.Lawful)
    (notQuiet : (s.channel n).voice.state ≠ .quiet) (notMuted : (s.channel n).voice.state ≠ .muted)
    (d : Detector) : Released d n s (voiceRelease n (s.mod n (Channel.withDetector d))) := by
  have release := voiceRelease_released (n := n) (s := s.mod n (Channel.withDetector d))
    (by simpa using lawful) (by simpa using notQuiet) (by simpa using notMuted)
  rw [State.channel_mod_self] at release
  obtain ⟨only, channel, reported, unreported⟩ := release
  rw [State.channel_mod_self] at channel reported unreported
  exact ⟨(mod_onlyString ..).trans only, channel, reported, unreported⟩

theorem Released.gate (r : Released d n s t) : (t.channel n).detector.gate = d.gate := by
  rw [r.channel, Channel.toQuiet_gate]; rfl

theorem Released.profile (r : Released d n s t) :
    (t.channel n).active = (s.channel n).nextProfile ∧ (t.channel n).pendingFlag = false := by
  rw [r.channel]
  exact Channel.toQuiet_profile ..

theorem Released.voice (r : Released d n s t) (lawful : (s.channel n).voice.Lawful)
    (notMuted : (s.channel n).voice.state ≠ .muted) (enabled : (s.channel n).active.enabled = true) :
    (t.channel n).voice = bareVoice .quiet (s.channel n).voice := by
  rw [r.channel]
  exact Channel.toQuiet_voice (c := ((s.channel n).withDetector d).noteOver s.atFrameEnd) enabled
    (lawful.ended_entering notMuted .quiet) _

/-- What an ONSET looks at stands where the string stays enabled. -/
theorem Released.heard (r : Released d n s t) (enabled : (s.channel n).active.enabled = true)
    (stays : (s.channel n).nextProfile.enabled = true) :
    (t.channel n).lane.envelope = (s.channel n).lane.envelope ∧ (t.channel n).clip = (s.channel n).clip
      ∧ (t.channel n).detector.rearmWait = d.rearmWait ∧ (t.channel n).detector.judgementDue = d.judgementDue := by
  rw [r.channel]
  exact Channel.toQuiet_heard (c := ((s.channel n).withDetector d).noteOver s.atFrameEnd) enabled stays _

/-- Without a pending profile the string is QUIET with its detector's gate closed, and no more has changed. -/
theorem Released.kept (r : Released d n s t) (kept : (s.channel n).pendingFlag = false) :
    t.channel n = (((s.channel n).withDetector d).noteOver s.atFrameEnd).entering .quiet :=
  r.channel.trans (Channel.toQuiet_kept (c := ((s.channel n).withDetector d).noteOver s.atFrameEnd) kept _)

/-- Without a pending profile the note of a sounding voice has ended, whatever of the string changes behind it. -/
theorem Released.ended (r : Released d n s t) (kept : (s.channel n).pendingFlag = false)
    (sounding : (s.channel n).voice.state = .sounding) : NoteEnded n .release s t where
  reported told := by
    obtain ⟨admitted, reserved⟩ := r.reported told
    refine ⟨admitted, reserved.trans ?_⟩
    rw [Voice.slots, told]
    cases (s.channel n).voice.fix <;> rfl
  unreported := r.unreported
  line := by
    rw [r.kept kept]
    exact if_pos sounding

end

/-! ## The judgement -/

section
variable {n : Str} {s : State}

theorem judge_release (due : (s.channel n).detector.judgementDue = true)
    (found : (s.channel n).ticked.verdict = .release) :
    judge n s = voiceRelease n (s.mod n (Channel.withDetector (s.channel n).detector.closes)) := by
  rw [judge_of_due due, found]
  exact releaseGate_ticked n s

/-- A late strike: the RELEASE, and the ONSET behind it where the string is then enabled (R51; log 18). -/
theorem judge_releaseOnset (due : (s.channel n).detector.judgementDue = true)
    (found : (s.channel n).ticked.verdict = .releaseOnset) :
    let t := voiceRelease n (s.mod n (Channel.withDetector (s.channel n).detector.closes))
    ((t.channel n).active.enabled = true → judge n s
      = attackGate n (s.channel n).active.velocityReference (voiceOnset n false) t)
    ∧ ((t.channel n).active.enabled = false → judge n s = t) := by
  refine ⟨fun enabled => ?_, fun disabled => ?_⟩
  · simp only [judge_of_due due, found, actOn, releaseGate_ticked, enabled, if_true, State.channel_mod_self,
      Channel.ticked_active]
  · simp only [judge_of_due due, found, actOn, releaseGate_ticked, disabled, Bool.false_eq_true, if_false]

/-- The steps that are the judgement of this frame end: its own, and RELEASE_HOLD_EXPIRY where the dip reaches the
release hold (R49, R52; log 10). -/
theorem exec_judges {i : Instr} (released : s.modes.resetPinLow = false)
    (due : (s.channel n).detector.judgementDue = true) (dip : (s.channel n).detector.gate = .dip)
    (named : i = .articulationJudgement n ∨ i = .releaseHoldExpiry n
      ∧ 4 * 2 ^ (s.channel n).active.releaseHoldCode ≤ (s.channel n).detector.dipTimer + 1) :
    exec i s = .next (judge n s) := by
  rcases named with rfl | ⟨rfl, held⟩
  · exact exec_articulationJudgement released n
  · have reaches : reachesHold n s = true := by simp [reachesHold, releaseHold, due, dip, held]
    refine congrArg Host.Outcome.next ((State.live_of_released released _).trans ?_)
    simp only [reaches, if_true]

/-- RELEASE_HOLD_EXPIRY at no judgement, or at one that does not reach the hold (log 1, log 10). -/
theorem exec_releaseHoldExpiry_of_not_held (released : s.modes.resetPinLow = false)
    (notHeld : (s.channel n).detector.judgementDue = false ∨ (s.channel n).detector.gate ≠ .dip
      ∨ (s.channel n).detector.dipTimer + 1 < 4 * 2 ^ (s.channel n).active.releaseHoldCode) :
    exec (.releaseHoldExpiry n) s = .next s := by
  have misses : reachesHold n s = false := by
    rcases notHeld with judged | other | short
    · simp [reachesHold, judged]
    · simp [reachesHold, other]
    · simp [reachesHold, releaseHold, Nat.not_le.mpr short]
  refine congrArg Host.Outcome.next ((State.live_of_released released _).trans ?_)
  simp only [misses, Bool.false_eq_true, if_false]

/-- The bleed test after an event on its own string alone, under the profile then active, is that of before it. -/
theorem bleedPasses_iff_bleedTest {t : State} {p : Profile} (only : OnlyString n s t)
    (active : (t.channel n).active = p) (envelope : (t.channel n).lane.envelope = (s.channel n).lane.envelope)
    (foreign : ∀ a ∈ p.associations, a.source ≠ n) : bleedPasses t n = true ↔ BleedTest p n s := by
  simp only [bleedPasses, active, envelope, List.all_eq_true, BleedTest]
  refine forall_congr' fun a => forall_congr' fun member => ?_
  rw [only.others _ (foreign a member)]
  simp [Voice.counts, or_iff_not_imp_left]

/-- The ONSET behind a RELEASE whose string stays enabled. -/
theorem attackGate_of_released {d : Detector} {t : State} (r : Released d n s t)
    (judged : d.judgementDue = false) (lawful : (s.channel n).voice.Lawful)
    (notMuted : (s.channel n).voice.state ≠ .muted) (enabled : (s.channel n).active.enabled = true)
    (stays : (s.channel n).nextProfile.enabled = true) (reference : Nat) :
    attackGate n reference (voiceOnset n false) t
      = t.mod n fun c => ({ c.struck reference with voice := (s.channel n).voice } : Channel).takesAttack
          (bleedPasses t n) 0 := by
  have voice := r.voice lawful notMuted enabled
  obtain ⟨-, -, -, due⟩ := r.heard enabled stays
  have gate : attackGate n reference (voiceOnset n false) t
      = voiceOnset n false (t.mod n (Channel.struck reference)) := by
    have same := attackGate_eq (n := n) (s := t) (f := id) (due.trans judged) reference (voiceOnset n false)
    rwa [State.mod_eq_self rfl] at same
  rw [gate, voiceOnset_of_quiet (v := (s.channel n).voice) (by simp [voice, bareVoice])
    (by simp [voice, bareVoice, Voice.entering, Voice.reset]), struck_bleedPasses, State.mod_mod]

/-- A late strike under a MUTED voice reaches the detector alone (R86). -/
theorem judge_lateStrike_muted (due : (s.channel n).detector.judgementDue = true)
    (found : (s.channel n).ticked.verdict = .releaseOnset) (enabled : (s.channel n).active.enabled = true)
    (muted : (s.channel n).voice.state = .muted) :
    judge n s = s.mod n (Channel.struck (s.channel n).active.velocityReference) := by
  have still : voiceRelease n (s.mod n (Channel.withDetector (s.channel n).detector.closes))
      = s.mod n (Channel.withDetector (s.channel n).detector.closes) :=
    voiceRelease_of_calm (by simp [muted])
  obtain ⟨strikes, -⟩ := judge_releaseOnset due found
  rw [still] at strikes
  rw [strikes (by simp [enabled]), attackGate_eq rfl, voiceOnset_of_not_quiet (by simp [muted])]
  exact State.mod_congr rfl

/-- A late strike under any voice that is neither MUTED nor QUIET is its RELEASE, with the ONSET taken behind it
where the string stays enabled (R51, R56; log 18). -/
theorem judge_lateStrike (due : (s.channel n).detector.judgementDue = true)
    (found : (s.channel n).ticked.verdict = .releaseOnset) (enabled : (s.channel n).active.enabled = true)
    (lawful : (s.channel n).voice.Lawful) (notMuted : (s.channel n).voice.state ≠ .muted)
    (notQuiet : (s.channel n).voice.state ≠ .quiet) :
    ∃ t, Released (s.channel n).detector.closes n s t
      ∧ ((s.channel n).nextProfile.enabled = true → judge n s = t.mod n fun c =>
        ({ c.struck (s.channel n).active.velocityReference with voice := (s.channel n).voice } : Channel).takesAttack
          (bleedPasses t n) 0)
      ∧ ((s.channel n).nextProfile.enabled = false → judge n s = t) := by
  have r := voiceRelease_closing lawful notQuiet notMuted (s.channel n).detector.closes
  obtain ⟨strikes, disables⟩ := judge_releaseOnset due found
  obtain ⟨active, -⟩ := r.profile
  refine ⟨_, r, fun stays => ?_, fun off => disables (active ▸ off)⟩
  rw [strikes (active ▸ stays), attackGate_of_released r rfl lawful notMuted enabled stays]

end

/-- Settles O46, by what a RELEASE leaves of the string and, after a late strike, the ONSET behind it. -/
theorem judgementMakesARelease : Obligations.JudgementMakesARelease := by
  intro n s released
  dsimp only
  refine ⟨fun lawful due dip => ⟨fun low held i named => ?_, fun enabled reached long late i named => ?_⟩,
    exec_releaseHoldExpiry_of_not_held released⟩
  · rw [exec_judges released due dip (named.imp_right fun e => ⟨e, held⟩),
      judge_release due (Channel.verdict_release dip low held)]
    have release (notQuiet) (notMuted) := voiceRelease_closing lawful notQuiet notMuted
      (s.channel n).detector.closes
    refine ⟨fun calm => congrArg _ ?_, fun attack kept => congrArg _ ?_, fun sounding kept => ⟨_, rfl, ?_⟩,
      fun notMuted notQuiet pending => ⟨_, rfl, ?_⟩⟩
    · rw [voiceRelease_of_calm (by simpa using calm.symm)]
      rfl
    · have bare : (s.channel n).voice.entering .quiet = bareVoice .quiet (s.channel n).voice := by
        rcases attack with attack | attack | attack <;>
          exact lawful.entering_bare (by simp [attack]) (by simp [attack]) _
      rw [voiceRelease_of_attack (by simpa using attack), enterQuiet_eq, State.mod_mod]
      have quieted := Channel.toQuiet_kept (c := (s.channel n).withDetector (s.channel n).detector.closes) kept
      exact State.mod_congr ((quieted _).trans (by rw [← bare]; rfl))
    · have notMuted : (s.channel n).voice.state ≠ .muted := by simp [sounding]
      have r := release (by simp [sounding]) notMuted
      refine ⟨r.only, r.ended kept sounding, ?_⟩
      rw [r.kept kept]
      exact ⟨lawful.ended_entering notMuted .quiet, rfl, rfl, rfl⟩
    · have r := release notQuiet notMuted
      obtain ⟨active, cleared⟩ := r.profile
      exact ⟨r.only, active.trans (if_pos pending), cleared, r.gate, r.voice lawful notMuted, r.reported,
        r.unreported⟩
  · rw [exec_judges released due dip named]
    have found := Channel.verdict_releaseOnset dip reached long late
    refine ⟨fun muted => congrArg _ ?_, fun notMuted notQuiet => ⟨_, rfl, ?_⟩⟩
    · rw [judge_lateStrike_muted due found enabled muted]
      exact State.mod_congr rfl
    · obtain ⟨t, r, strikes, disables⟩ := judge_lateStrike due found enabled lawful notMuted notQuiet
      obtain ⟨active, cleared⟩ := r.profile
      cases stays : (s.channel n).nextProfile.enabled
      · have pending : (s.channel n).pendingFlag = true := by
          by_contra kept
          rw [Channel.nextProfile, if_neg kept, enabled] at stays
          cases stays
        rw [disables stays]
        exact ⟨r.only, active, cleared, r.reported, r.unreported, fun kept => absurd (kept.symm.trans pending) nofun,
          fun on => absurd (stays.symm.trans on) nofun, fun _ => ⟨r.voice lawful notMuted enabled, r.gate⟩⟩
      · rw [strikes stays]
        obtain ⟨envelope, clip, rearmWait, -⟩ := r.heard enabled stays
        refine ⟨r.only.trans (mod_onlyString ..), ?_⟩
        rw [State.channel_mod_self]
        refine ⟨active, cleared, r.reported, r.unreported, fun kept => ⟨?_, fun sounding => ?_⟩,
          fun _ => ⟨?_, rfl, rfl, congrArg Profile.attackGuard active, fun foreign => ?_⟩,
          fun off => absurd (stays.symm.trans off) nofun⟩
        · have uncommitted := r.kept kept
          simp only [Channel.takesAttack, Channel.struck, Channel.withDetector, uncommitted]
          rfl
        · exact noteEnded_mod (r.ended kept sounding) rfl
        · simp only [Channel.takesAttack, Channel.struck, Channel.withDetector, envelope, clip, rearmWait, active]
          rfl
        · have tested := bleedPasses_iff_bleedTest r.only active envelope foreign
          refine ⟨fun passes => ?_, fun fails => ?_⟩
          · rw [tested.mpr passes]; exact ⟨rfl, rfl⟩
          · rw [Bool.eq_false_of_not_eq_true (mt tested.mp fails)]; exact ⟨rfl, rfl⟩

end Sys2Proof.Machine
end

section
/-! The replies of the commands that only read (R96, R148). -/

namespace Sys2Proof.Machine

section
variable {string selector : Byte} {n : Str} {s : State}

theorem getProfileRule_of_unnamed {rest : List Byte} (unnamed : Str.ofNumber string.toNat = none) (kind : Byte)
    (s : State) : getProfileRule kind (string :: rest) s = reply kind .badString [] s := by
  simp [getProfileRule, stringAt, field, unnamed]

theorem getProfileRule_active (named : Str.ofNumber string.toNat = some n) (kind : Byte) (s : State) :
    getProfileRule kind [string, 0] s
      = reply kind .taken (flagByte (s.channel n).pendingFlag :: (s.channel n).active.bytes) s := by
  simp [getProfileRule, stringAt, field, named]

theorem getProfileRule_staged (named : Str.ofNumber string.toNat = some n) (kind : Byte) (s : State) :
    getProfileRule kind [string, 1] s
      = reply kind .taken (flagByte (s.channel n).pendingFlag :: (s.channel n).staged.bytes) s := by
  simp [getProfileRule, stringAt, field, named]

theorem getProfileRule_badSelector (named : Str.ofNumber string.toNat = some n) (notActive : selector ≠ 0)
    (notStaged : selector ≠ 1) (kind : Byte) (s : State) :
    getProfileRule kind [string, selector] s = reply kind (.badField 0) [] s := by
  -- the match on the selector is read by these two
  have notZero : selector.toNat ≠ 0 := fun zero => notActive (BitVec.eq_of_toNat_eq zero)
  have notOne : selector.toNat ≠ 1 := fun one => notStaged (BitVec.eq_of_toNat_eq one)
  simp [getProfileRule, stringAt, field, named]

theorem readVoiceRule_of_unnamed (unnamed : Str.ofNumber string.toNat = none) (kind : Byte) (s : State) :
    readVoiceRule kind [string] s = reply kind .badString [] s := by
  simp [readVoiceRule, stringAt, field, unnamed]

theorem readVoiceRule_of_named (named : Str.ofNumber string.toNat = some n) (kind : Byte) (s : State) :
    readVoiceRule kind [string] s = reply kind .taken (snapshot n (s.channel n)) s := by
  simp [readVoiceRule, stringAt, field, named]

/-- A command that the handler can take, outside START and of the right length, is answered by its own rule. -/
theorem handled_rule {kind : Byte} {payload : List Byte} {rest : List Frame} {lengths : List Nat}
    (awaits : Awaits s kind payload rest) (started : s.modes.mode ≠ .start)
    (length : payload.length + 1 ∈ lengths) (inStart : Bool) (rule : Byte → List Byte → State → State) :
    (.next (s.live (handle (isKind kind) (command lengths inStart rule))) : Host.Outcome State Fault Refusal)
      = .next (rule kind payload (s.taken rest)) := by
  rw [handle_of_awaits awaits (by simp [isKind])]
  exact congrArg _ (command_rule (s := s.taken rest) length (fun starts => absurd starts started) rule)

end

/-- Settles O11, by the rule of each command on the state with the frame taken. -/
theorem readingCommandsReply : Obligations.ReadingCommandsReply := by
  intro string selector rest s started
  refine ⟨fun awaits => ?_, fun awaits => handled_rule awaits started (by decide) false getGlobalRule,
    fun awaits => ?_⟩
  · have taken : exec .getProfile s = .next (getProfileRule 0x04 [string, selector] (s.taken rest)) :=
      handled_rule awaits started (by simp) false getProfileRule
    rw [taken]
    refine ⟨fun n named => ⟨?_, ?_, fun notActive notStaged => ?_⟩, fun unnamed => ?_⟩
    · rintro rfl
      exact congrArg _ (getProfileRule_active named _ _)
    · rintro rfl
      exact congrArg _ (getProfileRule_staged named _ _)
    · exact congrArg _ (getProfileRule_badSelector named notActive notStaged _ _)
    · exact congrArg _ (getProfileRule_of_unnamed unnamed _ _)
  · have taken : exec .readVoice s = .next (readVoiceRule 0x0e [string] (s.taken rest)) :=
      handled_rule awaits started (by simp) false readVoiceRule
    rw [taken]
    exact ⟨fun n named => congrArg _ (readVoiceRule_of_named named _ _),
      fun unnamed => congrArg _ (readVoiceRule_of_unnamed unnamed _ _)⟩

end Sys2Proof.Machine
end

section
/-! What an estimate makes of a voice that has no note in force (R65, R66, R69, R84, R86), and the note that it
begins in ACQUIRING (R70). -/

namespace Sys2Proof.Machine

/-! ## The estimate taken from its unit -/

/-- The string with its delivered estimate taken. -/
def Channel.consumed (c : Channel) : Channel := { c with capture := { c.capture with delivered := none } }

@[simp] theorem Channel.consumed_voice (c : Channel) : c.consumed.voice = c.voice := rfl
@[simp] theorem Channel.consumed_active (c : Channel) : c.consumed.active = c.active := rfl

/-- The string with its delivered estimate taken and its voice then this one. -/
def Channel.answered (w : Voice) (c : Channel) : Channel := { c.consumed with voice := w }

section
variable {n : Str} {s : State} {e : Estimate} {velocity : Nat}

theorem exec_estimate (h : s.modes.resetPinLow = false) (n : Str) :
    exec (.estimate n) s = .next (takeEstimate n s) :=
  congrArg Host.Outcome.next (State.live_of_released h _)

theorem takeEstimate_of_none (idle : (s.channel n).capture.delivered = none) : takeEstimate n s = s := by
  simp [takeEstimate, idle]

theorem takeEstimate_of_delivered (delivered : (s.channel n).capture.delivered = some e) :
    takeEstimate n s = voiceEstimate n e (s.mod n Channel.consumed) := by
  simp only [takeEstimate, delivered]
  rfl

/-! ## What an ACQUIRING voice learns (R69) -/

theorem Voice.learn_full (full : e.kind = .full) (policy : StartPolicy) (v : Voice) :
    v.learn policy e = { v with currentPitch := some e.pitch, startKind := some .normal, acqExpired := false } := by
  simp [learn, full]

theorem Voice.learn_fast (provisional : e.kind = .provisional) (v : Voice) :
    v.learn .fast e = { v with
      currentPitch := some e.pitch, acqExpired := false
      startKind := if v.startKind = some .normal then some .normal else some .provisional } := by
  simp [learn, provisional]

theorem Voice.learn_confirmed (provisional : e.kind = .provisional) (v : Voice) : v.learn .confirmed e = v := by
  simp [learn, provisional]

theorem Voice.learn_velocity (policy : StartPolicy) (e : Estimate) (v : Voice) :
    (v.learn policy e).velocity = v.velocity := by
  unfold learn
  split <;> rfl

theorem tryBegin_of_absent (absent : (s.channel n).voice.velocity = none) : tryBegin n s = s := by
  simp [tryBegin, absent]

/-- The start kind, with the flag of its NOTE-ON, under which this estimate makes the pitch known (R69, R70). -/
def Estimate.Starts (policy : StartPolicy) (e : Estimate) (kind : StartKind) (flag : NoteFlag) : Prop :=
  (e.kind = .full ∧ kind = .normal ∧ flag = .none)
    ∨ (e.kind = .provisional ∧ policy = .fast ∧ kind = .provisional ∧ flag = .provisional)

section
variable {policy : StartPolicy} {kind : StartKind} {flag : NoteFlag}

theorem Estimate.Starts.flag_eq (starts : e.Starts policy kind flag) :
    (if kind = .provisional then NoteFlag.provisional else .none) = flag := by
  rcases starts with ⟨-, rfl, rfl⟩ | ⟨-, -, rfl, rfl⟩ <;> rfl

/-- The pitch becomes known with that start kind, where no full estimate has come before a provisional one. -/
theorem Estimate.Starts.learn (starts : e.Starts policy kind flag) {v : Voice}
    (fresh : e.kind = .provisional → v.startKind ≠ some .normal) :
    v.learn policy e
      = { v with currentPitch := some e.pitch, startKind := some kind, acqExpired := false } := by
  rcases starts with ⟨full, rfl, -⟩ | ⟨provisional, rfl, rfl, -⟩
  · exact Voice.learn_full full policy v
  · rw [Voice.learn_fast provisional, if_neg (fresh provisional)]

/-- An estimate from which an ACQUIRING voice with its velocity learns the pitch begins the note (R69, R70), told of
the string as it was before the same event changed it. -/
theorem estimateAcquiring_begins {f : Channel → Channel} {d : Detector} {u : Capture} {b : Bleed} {r : Reporter}
    {w : Voice} (starts : e.Starts (s.channel n).active.startPolicy kind flag)
    (fresh : e.kind = .provisional → w.startKind ≠ some .normal) (acquiring : w.state = .acquiring)
    (present : w.velocity = some velocity) (unreported : w.reported = false) (unfixed : w.fix = false)
    (changed : f (s.channel n)
      = { s.channel n with detector := d, capture := u, bleed := b, reporter := r, voice := w })
    (damp : w.damp = (s.channel n).voice.damp) (openCause : w.openCause = (s.channel n).voice.openCause)
    (serial : w.serial = (s.channel n).voice.serial) :
    let t := estimateAcquiring n e (s.mod n f)
    NoteFromAcquisition n (noteOf e.pitch) (some e.pitch) (offsetFrom (noteOf e.pitch) e.pitch) kind flag velocity s t
      ∧ (t.channel n).detector = d ∧ (t.channel n).capture = u := by
  have learned : (f (s.channel n)).modVoice (.learn (f (s.channel n)).active.startPolicy e)
      = { s.channel n with
          detector := d, capture := u, bleed := b, reporter := r
          voice := { w with currentPitch := some e.pitch, startKind := some kind, acqExpired := false } } := by
    rw [changed, ← starts.learn fresh]
    rfl
  dsimp only
  rw [estimateAcquiring, learnEstimate, State.mod_mod]
  set t := s.mod n fun c => (f c).modVoice (.learn (f c).active.startPolicy e) with t_def
  have channel : t.channel n = _ := (State.channel_mod_self ..).trans learned
  have begun : tryBegin n t = raiseLine n (beginNote n (noteOf e.pitch) (some e.pitch)
      (offsetFrom (noteOf e.pitch) e.pitch) kind flag velocity t) := by
    rw [tryBegin_of_known (kind := kind) (known := e.pitch) (velocity := velocity) (by rw [channel]; exact acquiring)
      (by rw [channel]; exact present) (by rw [channel]) (by rw [channel]), beginPitched, starts.flag_eq]
  obtain ⟨note, detector, capture⟩ := raisedNote_fromAcquisition (n := n) (s := t) (base := noteOf e.pitch)
    (pitch := some e.pitch) (offset := offsetFrom (noteOf e.pitch) e.pitch) (kind := kind) (flag := flag)
    (velocity := velocity) (by rw [channel]; exact unreported) (by rw [channel]; exact unfixed)
  rw [channel] at detector capture
  rw [begun]
  exact ⟨noteFromAcquisition_of_mod note learned damp openCause serial, detector, capture⟩

end

/-- With no velocity an ACQUIRING voice learns from an estimate and no note begins (R69, R70). -/
theorem estimateAcquiring_of_absent (absent : (s.channel n).voice.velocity = none) (e : Estimate) :
    estimateAcquiring n e s = learnEstimate n e s := by
  refine tryBegin_of_absent ?_
  rw [learnEstimate, State.channel_mod_self]
  exact (Voice.learn_velocity _ e (s.channel n).voice).trans absent

/-! ## ESTIMATE -/

theorem takeEstimate_calm (delivered : (s.channel n).capture.delivered = some e)
    (calm : (s.channel n).voice.state = .quiet ∨ (s.channel n).voice.state = .silent
      ∨ (s.channel n).voice.state = .muted) :
    takeEstimate n s = s.mod n (Channel.answered (s.channel n).voice) := by
  rw [takeEstimate_of_delivered delivered]
  have ignored : voiceEstimate n e (s.mod n Channel.consumed) = s.mod n Channel.consumed := by
    rcases calm with calm | calm | calm <;> simp [voiceEstimate, calm]
  rw [ignored]
  exact State.mod_congr rfl

theorem takeEstimate_held (delivered : (s.channel n).capture.delivered = some e)
    (suspect : (s.channel n).voice.state = .suspect) :
    takeEstimate n s = s.mod n (Channel.answered { (s.channel n).voice with held := some e }) := by
  have holds : voiceEstimate n e (s.mod n Channel.consumed)
      = (s.mod n Channel.consumed).mod n (.modVoice fun v => { v with held := some e }) := by
    simp [voiceEstimate, suspect]
  rw [takeEstimate_of_delivered delivered, holds, State.mod_mod]
  exact State.mod_congr rfl

theorem takeEstimate_acquiring (delivered : (s.channel n).capture.delivered = some e)
    (acquiring : (s.channel n).voice.state = .acquiring) :
    takeEstimate n s = estimateAcquiring n e (s.mod n Channel.consumed) := by
  simp [takeEstimate_of_delivered delivered, voiceEstimate, acquiring]

theorem takeEstimate_learned (delivered : (s.channel n).capture.delivered = some e)
    (acquiring : (s.channel n).voice.state = .acquiring) (absent : (s.channel n).voice.velocity = none) :
    takeEstimate n s = s.mod n (Channel.answered
      ((s.channel n).voice.learn (s.channel n).active.startPolicy e)) := by
  rw [takeEstimate_acquiring delivered acquiring, estimateAcquiring_of_absent (by simpa using absent),
    learnEstimate, State.mod_mod]
  exact State.mod_congr rfl

theorem takeEstimate_sounding (delivered : (s.channel n).capture.delivered = some e)
    (sounding : (s.channel n).voice.state = .sounding) :
    takeEstimate n s = estimateSounding n e (s.mod n Channel.consumed) := by
  simp [takeEstimate_of_delivered delivered, voiceEstimate, sounding]

end

/-- Settles O32, by the state in which the estimate finds the voice. -/
theorem estimateWithoutNote : Obligations.EstimateWithoutNote := by
  intro n s released
  rw [exec_estimate released]
  refine ⟨fun idle => congrArg _ (takeEstimate_of_none idle), fun e delivered => ?_⟩
  refine ⟨fun calm => congrArg _ (takeEstimate_calm delivered calm),
    fun suspect => congrArg _ (takeEstimate_held delivered suspect),
    fun acquiring absent full => congrArg _ ?_, fun acquiring absent provisional fast => congrArg _ ?_,
    fun acquiring absent provisional confirmed => congrArg _ ?_, fun sounding provisional => congrArg _ ?_⟩
  · rw [takeEstimate_learned delivered acquiring absent, Voice.learn_full full]
    rfl
  · rw [takeEstimate_learned delivered acquiring absent, fast, Voice.learn_fast provisional]
    rfl
  · rw [takeEstimate_learned delivered acquiring absent, confirmed, Voice.learn_confirmed provisional]
    rfl
  · rw [takeEstimate_sounding delivered sounding, estimateSounding, provisional]
    exact State.mod_congr rfl

/-- Settles O33, by the pitch that the estimate makes known to a voice with its velocity. -/
theorem noteBeginsOnEstimate : Obligations.NoteBeginsOnEstimate := by
  intro n e velocity kind flag s released lawful delivered acquiring present starts
  obtain ⟨unreported, unfixed⟩ := lawful.unreported (by simp [acquiring])
  have fresh : e.kind = .provisional → (s.channel n).voice.startKind ≠ some .normal := by
    rintro provisional
    rcases starts with ⟨full, -⟩ | ⟨-, -, fresh, -⟩
    · exact absurd (full.symm.trans provisional) nofun
    · exact fresh
  have starts : e.Starts (s.channel n).active.startPolicy kind flag :=
    starts.imp_right fun ⟨provisional, fast, _, named⟩ => ⟨provisional, fast, named⟩
  refine ⟨_, exec_estimate released n, ?_⟩
  rw [takeEstimate_acquiring delivered acquiring]
  exact estimateAcquiring_begins starts fresh acquiring present unreported unfixed rfl rfl rfl rfl

end Sys2Proof.Machine
end

section
/-! The expiries of the voice's timers (R71, R82, R83) and the per-frame step of a suspicion (R67, R102, R105). -/

namespace Sys2Proof.Machine

section
variable {n : Str} {s : State}

/-! ## The expiries of the voice's timers -/

theorem exec_acquisitionExpiry (h : s.modes.resetPinLow = false) (n : Str) :
    exec (.acquisitionExpiry n) s = .next (expireAcquisition n s) :=
  congrArg Host.Outcome.next (State.live_of_released h _)

theorem exec_stallExpiry (h : s.modes.resetPinLow = false) (n : Str) :
    exec (.stallExpiry n) s = .next (expireStall n s) :=
  congrArg Host.Outcome.next (State.live_of_released h _)

theorem exec_lostLimitExpiry (h : s.modes.resetPinLow = false) (n : Str) :
    exec (.lostLimitExpiry n) s = .next (expireLost n s) :=
  congrArg Host.Outcome.next (State.live_of_released h _)

/-- The string whose acquisition has run out with no pitch known (R71). -/
def Channel.acquisitionOver (c : Channel) : Channel :=
  { c with voice := { c.voice with acqExpired := true, startKind := some .unpitched } }

theorem expireAcquisition_of_due (acquiring : (s.channel n).voice.state = .acquiring)
    (due : (s.channel n).voice.acqTimer = some (s.channel n).active.acquisitionLimit)
    (unknown : (s.channel n).voice.currentPitch = none) :
    expireAcquisition n s = tryBegin n (s.mod n Channel.acquisitionOver) := by
  simp only [expireAcquisition, acquiring, due, unknown]
  rfl

theorem expireAcquisition_of_not_due (notDue : (s.channel n).voice.state ≠ .acquiring
      ∨ (s.channel n).voice.acqTimer ≠ some (s.channel n).active.acquisitionLimit
      ∨ (s.channel n).voice.currentPitch ≠ none) : expireAcquisition n s = s := by
  rcases notDue with other | early | known
  · simp [expireAcquisition, other]
  · simp [expireAcquisition, early]
  · simp [expireAcquisition, known]

/-- The acquisition that runs out with the velocity present begins an UNPITCHED note (R71). -/
theorem expireAcquisition_begins {velocity : Nat} (lawful : (s.channel n).voice.Lawful)
    (acquiring : (s.channel n).voice.state = .acquiring)
    (due : (s.channel n).voice.acqTimer = some (s.channel n).active.acquisitionLimit)
    (unknown : (s.channel n).voice.currentPitch = none) (present : (s.channel n).voice.velocity = some velocity) :
    let t := expireAcquisition n s
    NoteFromAcquisition n (s.channel n).active.openNote none 0 .unpitched .unpitched velocity s t
      ∧ (t.channel n).detector = (s.channel n).detector ∧ (t.channel n).capture = (s.channel n).capture := by
  obtain ⟨unreported, unfixed⟩ := lawful.unreported (by simp [acquiring])
  have channel : (s.mod n Channel.acquisitionOver).channel n = (s.channel n).acquisitionOver :=
    State.channel_mod_self ..
  obtain ⟨note, detector, capture⟩ := raisedNote_fromAcquisition (n := n)
    (s := s.mod n Channel.acquisitionOver) (base := (s.channel n).active.openNote) (pitch := none) (offset := 0)
    (kind := .unpitched) (flag := .unpitched) (velocity := velocity)
    (by rw [channel]; exact unreported) (by rw [channel]; exact unfixed)
  have begun : expireAcquisition n s = raiseLine n (beginNote n (s.channel n).active.openNote none 0 .unpitched
      .unpitched velocity (s.mod n Channel.acquisitionOver)) := by
    rw [expireAcquisition_of_due acquiring due unknown, tryBegin_of_expired (velocity := velocity)
      (by rw [channel]; exact acquiring) (by rw [channel]; exact present) (by rw [channel]; exact unknown)
      (by rw [channel]; rfl), beginUnpitched, channel]
    rfl
  rw [channel] at detector capture
  dsimp only
  rw [begun]
  exact ⟨noteFromAcquisition_of_mod note rfl rfl rfl rfl, detector, capture⟩

theorem expireStall_of_due (sounding : (s.channel n).voice.state = .sounding) (found : (s.channel n).voice.lost = false)
    (due : (s.channel n).voice.stallTimer = some (stallTime (s.channel n).capture.pmax)) :
    expireStall n s = s.mod n fun c => { c with voice := { c.voice with lost := true, lostTimer := some 0 } } := by
  simp only [expireStall, sounding, found, due]
  rfl

theorem expireStall_of_not_due (notDue : (s.channel n).voice.state ≠ .sounding ∨ (s.channel n).voice.lost = true
      ∨ (s.channel n).voice.stallTimer ≠ some (stallTime (s.channel n).capture.pmax)) : expireStall n s = s := by
  rcases notDue with other | lost | early
  · simp [expireStall, other]
  · simp [expireStall, lost]
  · simp [expireStall, early]

theorem expireLost_of_due (sounding : (s.channel n).voice.state = .sounding) (lost : (s.channel n).voice.lost = true)
    (due : (s.channel n).voice.lostTimer = some (s.channel n).active.lostLimit) :
    expireLost n s = (endNote n .lost s).mod n (.entering .silent) := by
  simp only [expireLost, sounding, lost, due]
  rfl

theorem expireLost_of_not_due (notDue : (s.channel n).voice.state ≠ .sounding ∨ (s.channel n).voice.lost = false
      ∨ (s.channel n).voice.lostTimer ≠ some (s.channel n).active.lostLimit) : expireLost n s = s := by
  rcases notDue with other | found | early
  · simp [expireLost, other]
  · simp [expireLost, found]
  · simp [expireLost, early]

end

/-- Settles O49, by each timer's expiry where it is due and where it is not. -/
theorem voiceTimersExpire : Obligations.VoiceTimersExpire := by
  intro n s released
  dsimp only
  rw [exec_acquisitionExpiry released, exec_stallExpiry released, exec_lostLimitExpiry released]
  refine ⟨fun lawful acquiring due unknown => ⟨fun absent => congrArg _ ?_,
      fun velocity present => ⟨_, rfl, ?_⟩⟩,
    fun notDue => congrArg _ (expireAcquisition_of_not_due notDue),
    fun sounding found due => congrArg _ (expireStall_of_due sounding found due),
    fun notDue => congrArg _ (expireStall_of_not_due notDue),
    fun lawful sounding lost due => ⟨_, rfl, expireLost_onlyString n s, ?_⟩,
    fun notDue => congrArg _ (expireLost_of_not_due notDue)⟩
  · rw [expireAcquisition_of_due acquiring due unknown]
    exact tryBegin_of_absent (by rw [State.channel_mod_self]; exact absent)
  · exact expireAcquisition_begins lawful acquiring due unknown present
  · rw [expireLost_of_due sounding lost due]
    refine ⟨noteEnded_mod (endNote_ended n .lost s) rfl, ?_⟩
    rw [State.channel_mod_self, endNote_channel lawful]
    exact ⟨⟨rfl, rfl, rfl, rfl, rfl, rfl, rfl⟩, rfl, lawful.ended_entering (by simp [sounding]) .silent, rfl⟩

end Sys2Proof.Machine
end

section
/-! The per-frame step of a suspicion (R67, R102), and when it waits for the judgement of its frame end (R105). -/

namespace Sys2Proof.Machine

/-! ## Whether an arrival may come (R46, R50 to R52) -/

section
variable {c : Channel}

/-- The string with CLIP as the judgement of this frame end may find it at the latest (R12). -/
def Channel.clipOver (c : Channel) : Channel := { c with clip := c.clipAtLatest }

theorem Channel.arrivalMayCome_eq (c : Channel) :
    c.arrivalMayCome = (c.detector.judgementDue && c.clipOver.ticked.verdict.bringsArrival) := rfl

/-- A dip that ends past the dip minimum brings a RESTRIKE or a late strike's RELEASE (R50, R51). -/
theorem Channel.dipEnds_bringsArrival (dip : c.detector.gate = .dip)
    (reached : c.active.onThreshold ≤ c.lane.envelope) :
    c.ticked.verdict.bringsArrival = true ↔ c.active.dipMin ≤ c.detector.dipTimer + 1 := by
  by_cases long : c.active.dipMin ≤ c.detector.dipTimer + 1
  · by_cases within : c.detector.dipTimer + 1 ≤ c.active.dipMax
    · simp [verdict_restrike dip reached long within, Verdict.bringsArrival, long]
    · simp [verdict_releaseOnset dip reached long (by omega), Verdict.bringsArrival, long]
  · simp [verdict_flutter dip reached (by omega), Verdict.bringsArrival, long]

/-- A dip that stays low brings a RELEASE at the release hold (R52). -/
theorem Channel.dipHolds_bringsArrival (dip : c.detector.gate = .dip)
    (low : c.lane.envelope < c.active.onThreshold) :
    c.ticked.verdict.bringsArrival = true ↔ 4 * 2 ^ c.active.releaseHoldCode ≤ c.detector.dipTimer + 1 := by
  by_cases held : 4 * 2 ^ c.active.releaseHoldCode ≤ c.detector.dipTimer + 1
  · simp [verdict_release dip low held, Verdict.bringsArrival, held]
  · simp [verdict_dips dip low (by omega), Verdict.bringsArrival, held]

/-- An OPEN gate brings a RESTRIKE at a surge (R46). -/
theorem Channel.opened_bringsArrival (window : 1 ≤ c.active.surgeWindow) (opened : c.detector.gate = .opened) :
    c.ticked.verdict.bringsArrival = true ↔ c.active.offThreshold ≤ c.lane.envelope ∧ Surges c := by
  by_cases reached : c.active.offThreshold ≤ c.lane.envelope
  · by_cases surges : Surges c
    · simp [verdict_surge opened reached surges, Verdict.bringsArrival, reached, surges]
    · simp [verdict_sustains opened reached window surges, Verdict.bringsArrival, surges]
  · simp [verdict_entersDip opened (by omega), Verdict.bringsArrival, reached]

/-- A CLOSED gate brings a voice with an attack nothing (R43, R44). -/
theorem Channel.closed_bringsNoArrival (closed : c.detector.gate = .closed) :
    c.ticked.verdict.bringsArrival = false := by
  rcases verdict_of_closed (c := c.ticked) closed with found | found | found <;> rw [found] <;> rfl

/-- Whether an arrival may come is as the statements write it (R12, R46, R50 to R52). -/
theorem Channel.arrivalMayCome_iff (window : 1 ≤ c.active.surgeWindow) :
    c.arrivalMayCome = true ↔ ArrivalMayCome c := by
  rw [arrivalMayCome_eq, Bool.and_eq_true]
  refine and_congr_right fun _ => ?_
  cases gate : c.detector.gate
  · simp [closed_bringsNoArrival (c := c.clipOver) gate]
  · simpa [clipOver, clipAtLatest] using opened_bringsArrival (c := c.clipOver) window gate
  · by_cases reached : c.active.onThreshold ≤ c.lane.envelope
    · simpa [reached, Nat.not_lt.mpr reached, clipOver] using dipEnds_bringsArrival (c := c.clipOver) gate reached
    · simpa [reached, Nat.not_le.mp reached, clipOver] using
        dipHolds_bringsArrival (c := c.clipOver) gate (Nat.not_le.mp reached)

/-- An arrival that may come makes the step look for it, whatever the surge window. -/
theorem Channel.arrivalMayCome_of (may : ArrivalMayCome c) : c.arrivalMayCome = true := by
  by_cases window : 1 ≤ c.active.surgeWindow
  · exact (arrivalMayCome_iff window).mpr may
  · obtain ⟨due, ⟨dip, reached, long⟩ | ⟨dip, low, held⟩ | ⟨-, -, surges⟩⟩ := may <;>
      rw [arrivalMayCome_eq, due, Bool.true_and]
    · exact (dipEnds_bringsArrival (c := c.clipOver) dip reached).mpr long
    · exact (dipHolds_bringsArrival (c := c.clipOver) dip low).mpr held
    · exact absurd (window_of_surges surges) window

end

/-! ## The per-frame step -/

/-- The string as its suspicion comes to an end, its voice then this one (R67). -/
def Channel.unsuspected (v : Voice) (c : Channel) : Channel :=
  { c with bleed := ⟨none, false⟩, reporter := ⟨none, none, none, false, false⟩, voice := v }

section
variable {n : Str} {s : State} {k : Nat}

theorem exec_bleedPerFrameStep (h : s.modes.resetPinLow = false) (n : Str) :
    exec (.bleedPerFrameStep n) s = .next (bleedStep n s) :=
  congrArg Host.Outcome.next (State.live_of_released h _)

theorem exec_bleedWindowExpiry (h : s.modes.resetPinLow = false) (n : Str) :
    exec (.bleedWindowExpiry n) s = .next (if windowRunsOut n s then bleedStep n s else s) :=
  congrArg Host.Outcome.next (State.live_of_released h _)

theorem Channel.stepTimer_of_due {c : Channel} (suspect : c.voice.state = .suspect)
    (due : c.bleed.stepDue = true) (timer : c.bleed.timer = some k) : c.stepTimer = some k := by
  simp [stepTimer, suspect, due, timer]

theorem Channel.stepTimer_of_not_due {c : Channel}
    (notDue : c.voice.state ≠ .suspect ∨ c.bleed.stepDue = false ∨ c.bleed.timer = none) :
    c.stepTimer = none := by
  rcases notDue with other | made | absent
  · simp [stepTimer, other]
  · simp [stepTimer, made]
  · simp [stepTimer, absent]

theorem bleedStep_of_pass (timer : (s.channel n).stepTimer = some k) (pass : bleedPasses s n = true)
    (goes : (s.channel n).stepWaits = false) : bleedStep n s = passSuspicion n s := by
  simp [bleedStep, timer, pass, goes]

theorem bleedStep_of_expiry (timer : (s.channel n).stepTimer = some k) (fail : bleedPasses s n = false)
    (reached : (s.channel n).active.bleedWindow ≤ k + 1) : bleedStep n s = s.mod n (.entering .silent) := by
  simp [bleedStep, timer, fail, reached]

theorem bleedStep_of_fail (timer : (s.channel n).stepTimer = some k) (fail : bleedPasses s n = false)
    (runs : k + 1 < (s.channel n).active.bleedWindow) :
    bleedStep n s = s.mod n fun c => { c with bleed := ⟨some (k + 1), false⟩ } := by
  simp [bleedStep, timer, fail, Nat.not_le.mpr runs]

theorem windowRunsOut_of_pass (pass : bleedPasses s n = true) : windowRunsOut n s = false := by
  unfold windowRunsOut
  cases (s.channel n).stepTimer <;> simp [pass]

theorem windowRunsOut_of_fail (timer : (s.channel n).stepTimer = some k) (fail : bleedPasses s n = false) :
    windowRunsOut n s = decide ((s.channel n).active.bleedWindow ≤ k + 1) := by
  simp [windowRunsOut, timer, fail]

theorem step_of_not_due (notDue : (s.channel n).stepTimer = none) :
    bleedStep n s = s ∧ windowRunsOut n s = false := by
  simp [bleedStep, windowRunsOut, notDue]

theorem acquiringVoice_unnamed (velocity : Option Nat) (carried : Nat) (v : Voice) :
    (acquiringVoice velocity carried v).startKind ≠ some .normal := by
  simp [acquiringVoice, bareVoice, Voice.reset]

/-- A suspicion that passes is ACQUIRING with what it carries (R67). -/
theorem suspicion_acquiring (lawful : (s.channel n).voice.Lawful) (suspect : (s.channel n).voice.state = .suspect)
    (velocity : Option Nat) (carried : Nat) :
    s.mod n (.acquiring velocity carried)
      = s.mod n (Channel.unsuspected (acquiringVoice velocity carried (s.channel n).voice)) := by
  refine State.mod_congr ?_
  rw [Channel.acquiring, Channel.entering, lawful.entering_bare (by simp [suspect]) (by simp [suspect])]
  rfl

/-- One whose window runs out is SILENT (R67). -/
theorem suspicion_silent (lawful : (s.channel n).voice.Lawful) (suspect : (s.channel n).voice.state = .suspect) :
    s.mod n (.entering .silent) = s.mod n (Channel.unsuspected (bareVoice .silent (s.channel n).voice)) := by
  refine State.mod_congr ?_
  rw [Channel.entering, lawful.entering_bare (by simp [suspect]) (by simp [suspect])]
  rfl

theorem passSuspicion_of_none (held : (s.channel n).voice.held = none) :
    passSuspicion n s
      = s.mod n (.acquiring (s.channel n).voice.velocity (s.channel n).voice.carried) := by
  simp only [passSuspicion, held]

theorem passSuspicion_of_held {e : Estimate} (held : (s.channel n).voice.held = some e) :
    passSuspicion n s = estimateAcquiring n e
      (s.mod n (.acquiring (s.channel n).voice.velocity (s.channel n).voice.carried)) := by
  simp only [passSuspicion, held]

end

section
variable {c : Channel} {e : Estimate}

/-! ## Which steps wait (R105) -/

theorem Channel.stepWaits_of_no_note (none : c.passBeginsNote = false) : c.stepWaits = false := by
  simp [stepWaits, none]

theorem Channel.passBeginsNote_of_absent (absent : c.voice.velocity = none) : c.passBeginsNote = false := by
  simp [passBeginsNote, absent]

theorem Channel.passBeginsNote_of_none (held : c.voice.held = none) : c.passBeginsNote = false := by
  simp [passBeginsNote, held]

theorem Channel.passBeginsNote_of_confirmed (held : c.voice.held = some e) (provisional : e.kind = .provisional)
    (confirmed : c.active.startPolicy = .confirmed) : c.passBeginsNote = false := by
  simp [passBeginsNote, held, provisional, confirmed]

theorem Channel.passBeginsNote_of_starts {kind : StartKind} {flag : NoteFlag} (held : c.voice.held = some e)
    (starts : e.Starts c.active.startPolicy kind flag) (present : c.voice.velocity ≠ none) :
    c.passBeginsNote = true := by
  have known : e.kind = .full ∨ c.active.startPolicy = .fast :=
    starts.imp And.left fun provisional => provisional.2.1
  simpa [passBeginsNote, held, Option.isSome_iff_ne_none, present] using known

end

section
variable {n : Str} {s : State} {e : Estimate} {kind : StartKind} {flag : NoteFlag}

/-! ## A pass with a held estimate -/

/-- Under CONFIRMED a held provisional estimate teaches nothing (R69). -/
theorem passSuspicion_of_confirmed (lawful : (s.channel n).voice.Lawful)
    (suspect : (s.channel n).voice.state = .suspect) (held : (s.channel n).voice.held = some e)
    (provisional : e.kind = .provisional) (confirmed : (s.channel n).active.startPolicy = .confirmed) :
    passSuspicion n s = s.mod n (Channel.unsuspected
      (acquiringVoice (s.channel n).voice.velocity (s.channel n).voice.carried (s.channel n).voice)) := by
  rw [passSuspicion_of_held held, suspicion_acquiring lawful suspect, estimateAcquiring]
  set v := acquiringVoice (s.channel n).voice.velocity (s.channel n).voice.carried (s.channel n).voice
  have untaught : learnEstimate n e (s.mod n (Channel.unsuspected v)) = s.mod n (Channel.unsuspected v) := by
    refine State.mod_eq_self ?_
    rw [State.channel_mod_self]
    exact congrArg (fun v => (s.channel n).unsuspected v) (confirmed ▸ Voice.learn_confirmed provisional v)
  rw [untaught]
  exact tryBegin_of_unknown (by rw [State.channel_mod_self]; rfl) (by rw [State.channel_mod_self]; rfl)

/-- With no velocity the held estimate is learned (R66, R67, R69). -/
theorem passSuspicion_learns (lawful : (s.channel n).voice.Lawful)
    (suspect : (s.channel n).voice.state = .suspect) (held : (s.channel n).voice.held = some e)
    (starts : e.Starts (s.channel n).active.startPolicy kind flag) (absent : (s.channel n).voice.velocity = none) :
    passSuspicion n s = s.mod n (Channel.unsuspected
      { acquiringVoice (s.channel n).voice.velocity (s.channel n).voice.carried (s.channel n).voice with
        currentPitch := some e.pitch, startKind := some kind }) := by
  rw [passSuspicion_of_held held, suspicion_acquiring lawful suspect,
    estimateAcquiring_of_absent (by rw [State.channel_mod_self]; exact absent), learnEstimate, State.mod_mod]
  exact State.mod_congr (congrArg (fun v => (s.channel n).unsuspected v)
    (starts.learn fun _ => acquiringVoice_unnamed _ _ _))

/-- With velocity present the note begins (R67, R70). -/
theorem passSuspicion_begins {velocity : Nat} (lawful : (s.channel n).voice.Lawful)
    (suspect : (s.channel n).voice.state = .suspect) (held : (s.channel n).voice.held = some e)
    (starts : e.Starts (s.channel n).active.startPolicy kind flag)
    (present : (s.channel n).voice.velocity = some velocity) :
    let t := passSuspicion n s
    NoteFromAcquisition n (noteOf e.pitch) (some e.pitch) (offsetFrom (noteOf e.pitch) e.pitch) kind flag velocity s t
      ∧ (t.channel n).detector = (s.channel n).detector ∧ (t.channel n).capture = (s.channel n).capture := by
  obtain ⟨damp, openCause⟩ := lawful.unmuted (by simp [suspect])
  dsimp only
  rw [passSuspicion_of_held held, suspicion_acquiring lawful suspect]
  exact estimateAcquiring_begins (w := acquiringVoice _ _ _) starts (fun _ => acquiringVoice_unnamed _ _ _) rfl present
    rfl rfl rfl damp.symm openCause.symm rfl

end

/-- Settles O48, by the result of the test and what the suspicion holds. -/
theorem suspicionIsStepped : Obligations.SuspicionIsStepped := by
  intro n k s released
  dsimp only
  rw [exec_bleedPerFrameStep released, exec_bleedWindowExpiry released]
  refine ⟨fun lawful suspect due timer => ?_, fun notDue => ?_⟩
  · have timer := Channel.stepTimer_of_due suspect due timer
    refine ⟨fun pass => ⟨fun held => congrArg _ ?_, fun e held provisional confirmed => congrArg _ ?_,
        fun e kind flag held starts => ⟨fun absent => congrArg _ ?_, fun present may => congrArg _ ?_,
          fun velocity present window may => ⟨_, rfl, ?_⟩⟩⟩,
      fun fail reached i named => ?_, fun fail runs => ⟨congrArg _ (bleedStep_of_fail timer fail runs), ?_⟩,
      fun pass => by simp [windowRunsOut_of_pass pass]⟩
    · rw [bleedStep_of_pass timer pass (Channel.stepWaits_of_no_note (Channel.passBeginsNote_of_none held)),
        passSuspicion_of_none held, suspicion_acquiring lawful suspect]
      rfl
    · rw [bleedStep_of_pass timer pass
          (Channel.stepWaits_of_no_note (Channel.passBeginsNote_of_confirmed held provisional confirmed)),
        passSuspicion_of_confirmed lawful suspect held provisional confirmed]
      rfl
    · rw [bleedStep_of_pass timer pass (Channel.stepWaits_of_no_note (Channel.passBeginsNote_of_absent absent)),
        passSuspicion_learns lawful suspect held starts absent]
      rfl
    · refine bleedStep_of_waits ?_ pass
      rw [Channel.stepWaits, Channel.arrivalMayCome_of may, Channel.passBeginsNote_of_starts held starts present]
      rfl
    · have goes : (s.channel n).stepWaits = false := by
        rw [Channel.stepWaits, Bool.eq_false_of_not_eq_true (mt (Channel.arrivalMayCome_iff window).mp may)]
        rfl
      rw [bleedStep_of_pass timer pass goes]
      exact passSuspicion_begins lawful suspect held starts present
    · have silenced : bleedStep n s
          = s.mod n (Channel.unsuspected (bareVoice .silent (s.channel n).voice)) := by
        rw [bleedStep_of_expiry timer fail reached, suspicion_silent lawful suspect]
      rcases named with rfl | rfl
      · rw [exec_bleedPerFrameStep released, silenced]
        rfl
      · rw [exec_bleedWindowExpiry released, windowRunsOut_of_fail timer fail, silenced]
        simp only [reached, decide_true, if_true]
        rfl
    · rw [windowRunsOut_of_fail timer fail]
      simp [Nat.not_le.mpr runs]
  · obtain ⟨still, stands⟩ := step_of_not_due (Channel.stepTimer_of_not_due notDue)
    exact ⟨congrArg _ still, by simp [stands]⟩

end Sys2Proof.Machine
end

section
/-! What the queue does with an offered GLIDE (R130), and what a considered report leaves (R113, R116). -/

namespace Sys2Proof.Machine

/-! ## The string's GLIDE in the queue (R130) -/

section
variable {n : Str} {before : List Record}

theorem mergeGlide_of_none {rs : List Record} (none : rs.any (Record.isGlideOf n) = false) (offset : Int) :
    mergeGlide n offset rs = rs := by
  refine (List.map_congr_left fun r member => ?_).trans (List.map_id rs)
  have other := List.any_eq_false.mp none r member
  cases r with
  | glide m serial old => exact if_neg (by simpa [Record.isGlideOf] using other)
  | _ => rfl

theorem mergeGlide_replaces {after : List Record} (first : before.any (Record.isGlideOf n) = false)
    (alone : after.any (Record.isGlideOf n) = false) (serial : Byte) (old offset : Int) :
    mergeGlide n offset (before ++ .glide n serial old :: after) = before ++ .glide n serial offset :: after := by
  have split : mergeGlide n offset (before ++ .glide n serial old :: after)
      = mergeGlide n offset before ++ .glide n serial offset :: mergeGlide n offset after := by
    simp [mergeGlide]
  rw [split, mergeGlide_of_none first, mergeGlide_of_none alone]

theorem noteBehindGlide_append (first : before.any (Record.isGlideOf n) = false) (serial : Byte) (old : Int)
    (after : List Record) :
    noteBehindGlide n (before ++ .glide n serial old :: after) = after.any (Record.isNoteOf n) := by
  induction before with
  | nil => simp [noteBehindGlide, Record.isGlideOf]
  | cons r before ih =>
    obtain ⟨other, first⟩ := Bool.or_eq_false_iff.mp first
    rw [List.cons_append, noteBehindGlide, other, if_neg Bool.false_ne_true, ih first]

end

/-! ## An offered GLIDE (R130) -/

section
variable {n : Str} {s : State}

theorem offerGlide_merged (merged : glideAnswer n s = .merged) (offset : Int) :
    (offerGlide n offset s).queue = { s.queue with records := mergeGlide n offset s.queue.records }
      ∧ (offerGlide n offset s).backlog = s.backlog
      ∧ ((offerGlide n offset s).channel n).reporter.lastReported = some offset := by
  have told := s.channel_mod_self n fun c =>
    { c with reporter := { c.reporter with lastReported := some offset } }
  simp only [offerGlide, merged]
  exact ⟨rfl, rfl, congrArg (fun c => c.reporter.lastReported) told⟩

theorem offerGlide_admitted (admitted : glideAnswer n s = .admitted) (offset : Int) :
    Admitted s (offerGlide n offset s) [.glide n (s.channel n).voice.serial offset]
      ∧ (offerGlide n offset s).queue.reserved = s.queue.reserved
      ∧ ((offerGlide n offset s).channel n).reporter.lastReported = some offset := by
  simp only [offerGlide, admitted]
  exact ⟨updateBacklog_admitted rfl rfl, (updateBacklog_account _).1, by simp⟩

theorem offerGlide_dropped (dropped : glideAnswer n s = .dropped) (offset : Int) :
    offerGlide n offset s = s.refuse := by
  simp only [offerGlide, dropped]

/-- The queue answers a GLIDE as the table of R130 says. -/
theorem offerGlide_offered (n : Str) (offset : Int) (s : State) :
    GlideOffered n offset s (offerGlide n offset s) := by
  refine ⟨fun before old serial after queued first alone => ⟨fun free => ?_, fun behind => ?_⟩,
    fun none => ⟨fun room => ?_, fun full => ?_⟩⟩
  · have merged : glideAnswer n s = .merged := by
      simp [glideAnswer, queued, noteBehindGlide_append first, free, Record.isGlideOf]
    obtain ⟨queue, rest⟩ := offerGlide_merged merged offset
    exact ⟨by rw [queue, queued, mergeGlide_replaces first alone], rest⟩
  · have dropped : glideAnswer n s = .dropped := by
      simp [glideAnswer, queued, noteBehindGlide_append first, behind, Record.isGlideOf]
    rw [offerGlide_dropped dropped]
    exact ⟨rfl, rfl, rfl⟩
  · have admitted : glideAnswer n s = .admitted := by simp [glideAnswer, none, room]
    exact offerGlide_admitted admitted offset
  · have dropped : glideAnswer n s = .dropped := by simp [glideAnswer, none, full]
    rw [offerGlide_dropped dropped]
    exact ⟨rfl, rfl, rfl⟩

/-! ## A considered report (R113, R116) -/

theorem considerReport_considered (n : Str) (offset : Int) (s : State) :
    ReportConsidered n (s.channel n).reportable offset s (considerReport n offset s) := by
  refine ⟨fun reportable far => ?_, fun calm => ?_⟩
  · have offers : considerReport n offset s = offerGlide n offset s := by
      simp only [considerReport, reportable, Bool.true_and]
      exact if_pos (decide_eq_true far)
    rw [offers]
    exact offerGlide_offered n offset s
  · have still : considerReport n offset s = s := by
      rcases calm with unreportable | near
      · simp [considerReport, unreportable]
      · simp only [considerReport]
        refine if_neg fun both => near ?_
        exact of_decide_eq_true (Bool.and_eq_true_iff.mp both).2
    rw [still]
    exact ⟨rfl, rfl, rfl⟩

/-- A report is considered by the queue, the deadband, the serial and the last reported offset alone. -/
theorem reportConsidered_congr_left {reportable : Bool} {offset : Int} {s' t : State}
    (report : ReportConsidered n reportable offset s' t) (queue : s'.queue = s.queue)
    (backlog : s'.backlog = s.backlog) (deadband : (s'.channel n).active.deadband = (s.channel n).active.deadband)
    (serial : (s'.channel n).voice.serial = (s.channel n).voice.serial)
    (last : (s'.channel n).reporter.lastReported = (s.channel n).reporter.lastReported) :
    ReportConsidered n reportable offset s t := by
  unfold ReportConsidered GlideOffered Admitted Joined State.hasRoom at *
  rwa [queue, backlog, deadband, serial, last] at report

/-- The string with this as its last reported offset. -/
def Channel.told (last : Option Int) (c : Channel) : Channel :=
  { c with reporter := { c.reporter with lastReported := last } }

/-- A considered report leaves the string but for its last reported offset. -/
theorem considerReport_channel (n : Str) (offset : Int) (s : State) :
    ∃ last, (considerReport n offset s).channel n = (s.channel n).told last := by
  have kept : s.channel n = (s.channel n).told (s.channel n).reporter.lastReported := rfl
  unfold considerReport
  dsimp only
  split
  · rcases offerGlide_channel n offset s with same | changed
    · exact ⟨_, same.trans kept⟩
    · exact ⟨_, changed⟩
  · exact ⟨_, kept⟩

theorem considerOutput_of_pitched {out base : Nat} (output : (s.channel n).reporter.output = some out)
    (note : (s.channel n).voice.baseNote = some base) :
    considerOutput n s = considerReport n (clampedOffset (s.channel n) out base) s := by
  have offset : (s.channel n).outputOffset = some (clampedOffset (s.channel n) out base) := by
    simp only [Channel.outputOffset, output, note]
    rfl
  simp only [considerOutput, offset]

theorem reportOnEstimate_of_periodic (periodic : (s.channel n).active.glideMode ≠ .onEstimate) :
    reportOnEstimate n s = s := by
  simp [reportOnEstimate, periodic]

theorem reportOnEstimate_of_onEstimate (onEstimate : (s.channel n).active.glideMode = .onEstimate) :
    reportOnEstimate n s = considerOutput n s := by
  simp [reportOnEstimate, onEstimate]

theorem reportOnEstimate_channel (n : Str) (s : State) :
    ∃ last, (reportOnEstimate n s).channel n = (s.channel n).told last := by
  have kept : s.channel n = (s.channel n).told (s.channel n).reporter.lastReported := rfl
  unfold reportOnEstimate considerOutput
  split
  · split
    · exact considerReport_channel ..
    · exact ⟨_, kept⟩
  · exact ⟨_, kept⟩

/-- A pitched note under way, reported to the host and not LOST, is reportable (R113). -/
theorem Channel.reportable_of_pitched {c : Channel} (sounding : c.voice.state = .sounding)
    (found : c.voice.lost = false) (normal : c.voice.startKind = some .normal) :
    c.reportable = c.voice.reported := by
  simp [reportable, sounding, found, normal]

end

end Sys2Proof.Machine
end

section
/-! What a full estimate makes of a note in force that it keeps (R73 to R78, R110, R111, R116), with the statements of
the start that it settles, the note that it keeps and the candidate that it holds. -/

namespace Sys2Proof.Machine

/-! ## A note kept -/

/-- What an estimate that keeps the note in force leaves: the voice and the output pitch given, and a report
considered under ON-ESTIMATE (R110, R116). -/
structure NoteKept (n : Str) (v : Voice) (out : Option Nat) (base : Nat) (s t : State) : Prop where
  only : OnlyString n s t
  source : (s.channel n).SameSource (t.channel n)
  line : (t.channel n).gateLine = (s.channel n).gateLine
  voice : (t.channel n).voice = v
  taken : EstimateTaken out (s.channel n) (t.channel n)
  silent : (s.channel n).active.glideMode ≠ .onEstimate →
    t.queue = s.queue ∧ t.backlog = s.backlog
      ∧ (t.channel n).reporter.lastReported = (s.channel n).reporter.lastReported
  reports : (s.channel n).active.glideMode = .onEstimate → ∀ pitch, (t.channel n).reporter.output = some pitch →
    ReportConsidered n (s.channel n).voice.reported (clampedOffset (s.channel n) pitch base) s t

/-- The string with its estimate taken, and the voice and the output pitch then these. -/
def Channel.pitched (v : Voice) (out : Option Nat) (c : Channel) : Channel :=
  { c.consumed with voice := v, reporter := { c.reporter with output := out } }

section
variable {n : Str} {s : State} {v : Voice} {out : Option Nat} {base : Nat}

/-- The change of the string, and the report behind it, keep a pitched note. -/
theorem reportOnEstimate_kept {f : Channel → Channel} (changed : f (s.channel n) = (s.channel n).pitched v out)
    (sounding : v.state = .sounding) (found : v.lost = false) (normal : v.startKind = some .normal)
    (note : v.baseNote = some base) (reported : v.reported = (s.channel n).voice.reported)
    (serial : v.serial = (s.channel n).voice.serial) :
    NoteKept n v out base s (reportOnEstimate n (s.mod n f)) := by
  have channel : (s.mod n f).channel n = (s.channel n).pitched v out := (State.channel_mod_self ..).trans changed
  obtain ⟨last, reportedChannel⟩ := reportOnEstimate_channel n (s.mod n f)
  rw [channel] at reportedChannel
  refine ⟨(mod_onlyString ..).trans (reportOnEstimate_onlyString ..), ?_, ?_, ?_, ?_, fun periodic => ?_,
    fun onEstimate pitch output => ?_⟩
  · rw [reportedChannel]; exact ⟨rfl, rfl, rfl, rfl, rfl, rfl, rfl⟩
  · rw [reportedChannel]; rfl
  · rw [reportedChannel]; rfl
  · rw [reportedChannel]; exact ⟨rfl, rfl, rfl⟩
  · rw [reportOnEstimate_of_periodic (by rw [channel]; exact periodic), channel]
    exact ⟨rfl, rfl, rfl⟩
  · rw [reportedChannel] at output
    have reportable : ((s.mod n f).channel n).reportable = (s.channel n).voice.reported := by
      rw [channel, ← reported]
      exact Channel.reportable_of_pitched sounding found normal
    have offset : clampedOffset ((s.mod n f).channel n) pitch base = clampedOffset (s.channel n) pitch base := by
      rw [channel]; rfl
    have report := considerReport_considered n (clampedOffset (s.channel n) pitch base) (s.mod n f)
    rw [reportable] at report
    rw [reportOnEstimate_of_onEstimate (by rw [channel]; exact onEstimate),
      considerOutput_of_pitched (out := pitch) (base := base) (by rw [channel]; exact output)
        (by rw [channel]; exact note), offset]
    exact reportConsidered_congr_left report rfl rfl (by rw [channel]; rfl) (by rw [channel]; exact serial)
      (by rw [channel]; rfl)

end

/-! ## The pitch of a note changed (R74 to R77) -/

/-- The string with its estimate taken and its note confirmed by it (R74). -/
def Channel.confirmed (fresh : Bool) (c : Channel) : Channel := c.consumed.modVoice (.confirmPitch fresh)

/-- The string as the estimate becomes the current pitch of its note (R74, R110). -/
def Channel.repitched (fresh : Bool) (pitch : Nat) (c : Channel) : Channel := (c.confirmed fresh).setCurrent pitch

section
variable {n : Str} {s : State} {pitch base current : Nat}

theorem Channel.repitched_eq {c : Channel} (note : c.voice.baseNote = some base) (fresh : Bool) (pitch : Nat) :
    c.repitched fresh pitch = c.pitched (confirmedVoice fresh (some base) (some pitch) none c.voice)
      (if c.active.slew = 0 then some pitch else c.reporter.output) := by
  have voice : ((c.confirmed fresh).setCurrent pitch).voice
      = confirmedVoice fresh (some base) (some pitch) none c.voice := by
    rw [← note]; rfl
  simp only [repitched, pitched, ← voice, setCurrent]
  by_cases direct : c.active.slew = 0
  · rw [if_pos direct, if_pos (by exact direct)]; rfl
  · rw [if_neg direct, if_neg (by exact direct)]; rfl

/-- A note keeps its base note as the estimate becomes its current pitch. -/
theorem repitched_kept {f : Channel → Channel}
    (changed : f (s.channel n) = (s.channel n).repitched s.atFrameEnd pitch)
    (sounding : (s.channel n).voice.state = .sounding) (normal : (s.channel n).voice.startKind = some .normal)
    (note : (s.channel n).voice.baseNote = some base) :
    NoteKept n (confirmedVoice s.atFrameEnd (some base) (some pitch) none (s.channel n).voice)
      (if (s.channel n).active.slew = 0 then some pitch else (s.channel n).reporter.output) base s
      (reportOnEstimate n (s.mod n f)) :=
  reportOnEstimate_kept (changed.trans (Channel.repitched_eq note ..)) sounding rfl normal rfl rfl rfl

/-! ## The bend test (R74, R79) -/

theorem bendTest_within {t : State} (note : (t.channel n).voice.baseNote = some base)
    (within : ((pitch : Int) - 64 * (base : Int)).natAbs ≤ 64 * (t.channel n).active.bendRange) :
    bendTest n pitch t = reportOnEstimate n t := by
  simp only [bendTest, note]
  exact if_neg (Nat.not_lt.mpr within)

theorem bendTest_beyond {t : State} (note : (t.channel n).voice.baseNote = some base)
    (beyond : 64 * (t.channel n).active.bendRange < ((pitch : Int) - 64 * (base : Int)).natAbs) :
    bendTest n pitch t = nextNote n pitch .slid .slid (closingReport n base pitch t) := by
  simp only [bendTest, note]
  exact if_pos beyond

/-! ## A full estimate read under the legato policy (R74 to R77) -/

/-- The estimate is put to the bend test at once: under GLIDE, and under SPLIT within the step threshold of the
current pitch (R76, R77). -/
def Channel.Bends (current pitch : Nat) (c : Channel) : Prop :=
  c.active.legatoPolicy = .glide
    ∨ (c.active.legatoPolicy = .split ∧ ((pitch : Int) - (current : Int)).natAbs < c.active.stepThreshold)

/-- The estimate lies away from the note in force (R75, R77). -/
def Channel.Away (base current pitch : Nat) (c : Channel) : Prop :=
  (c.active.legatoPolicy = .step ∧ c.active.stepThreshold ≤ ((pitch : Int) - 64 * (base : Int)).natAbs)
    ∨ (c.active.legatoPolicy = .split ∧ c.active.stepThreshold ≤ ((pitch : Int) - (current : Int)).natAbs)

/-- A full estimate at a NORMAL note is read under the legato policy. -/
theorem takeEstimate_read (delivered : (s.channel n).capture.delivered = some ⟨.full, pitch⟩)
    (sounding : (s.channel n).voice.state = .sounding) (normal : (s.channel n).voice.startKind = some .normal) :
    takeEstimate n s = readEstimate n pitch (s.mod n Channel.consumed) := by
  rw [takeEstimate_sounding delivered sounding]
  simp [estimateSounding, normal]

theorem readEstimate_step (policy : (s.channel n).active.legatoPolicy = .step)
    (note : (s.channel n).voice.baseNote = some base)
    (near : ((pitch : Int) - 64 * (base : Int)).natAbs < (s.channel n).active.stepThreshold) :
    readEstimate n pitch (s.mod n Channel.consumed)
      = reportOnEstimate n (s.mod n (Channel.repitched s.atFrameEnd pitch)) := by
  simp only [readEstimate, State.channel_mod_self, Channel.consumed_active, Channel.consumed_voice, policy, note,
    distance, Option.getD_some]
  rw [if_pos near, State.mod_mod, State.mod_mod]
  rfl

theorem readEstimate_bends (known : (s.channel n).voice.currentPitch = some current)
    (bends : (s.channel n).Bends current pitch) :
    readEstimate n pitch (s.mod n Channel.consumed)
      = bendTest n pitch (s.mod n (Channel.repitched s.atFrameEnd pitch)) := by
  rcases bends with policy | ⟨policy, near⟩
  all_goals
    simp only [readEstimate, State.channel_mod_self, Channel.consumed_active, Channel.consumed_voice, policy, known,
      distance, Option.getD_some]
  · rw [State.mod_mod, State.mod_mod]
    rfl
  · rw [if_pos near, State.mod_mod, State.mod_mod]
    rfl

theorem readEstimate_away (note : (s.channel n).voice.baseNote = some base)
    (known : (s.channel n).voice.currentPitch = some current) (away : (s.channel n).Away base current pitch) :
    readEstimate n pitch (s.mod n Channel.consumed)
      = candidateTest n pitch (s.mod n (Channel.confirmed s.atFrameEnd)) := by
  rcases away with ⟨policy, far⟩ | ⟨policy, far⟩
  all_goals
    simp only [readEstimate, State.channel_mod_self, Channel.consumed_active, Channel.consumed_voice, policy, note,
      known, distance, Option.getD_some]
    rw [if_neg (Nat.not_lt.mpr far), State.mod_mod]
    rfl

end

/-- Settles O36, by the two ways in which an estimate keeps its note. -/
theorem estimateKeepsNote : Obligations.EstimateKeepsNote := by
  intro n pitch base current s released delivered sounding normal note known
  dsimp only
  intro keeps
  have kept := repitched_kept (pitch := pitch) (f := Channel.repitched s.atFrameEnd pitch) rfl sounding normal note
  have read : takeEstimate n s = reportOnEstimate n (s.mod n (Channel.repitched s.atFrameEnd pitch)) := by
    have channel : (s.mod n (Channel.repitched s.atFrameEnd pitch)).channel n = _ :=
      (State.channel_mod_self ..).trans (Channel.repitched_eq note ..)
    have within (bends : (s.channel n).Bends current pitch)
        (within : ((pitch : Int) - 64 * (base : Int)).natAbs ≤ 64 * (s.channel n).active.bendRange) :
        readEstimate n pitch (s.mod n Channel.consumed)
          = reportOnEstimate n (s.mod n (Channel.repitched s.atFrameEnd pitch)) := by
      rw [readEstimate_bends known bends, bendTest_within (base := base) (by rw [channel]; rfl)
        (by rw [channel]; exact within)]
    rw [takeEstimate_read delivered sounding normal]
    rcases keeps with ⟨policy, near⟩ | ⟨policy, inRange⟩ | ⟨policy, near, inRange⟩
    · exact readEstimate_step policy note near
    · exact within (.inl policy) inRange
    · exact within (.inr ⟨policy, near⟩) inRange
  refine ⟨_, exec_estimate released n, ?_⟩
  rw [read]
  exact ⟨kept.only, kept.source, kept.line, kept.voice, kept.taken, kept.silent, kept.reports⟩

end Sys2Proof.Machine
end

section
/-! The candidate that a full estimate becomes, raises or confirms (R74, R78), and the start that one settles (R73,
R111, R114), with their statements. -/

namespace Sys2Proof.Machine

/-! ## The candidate (R74) -/

theorem nextCandidate_eq {c : Channel} {pitch : Nat} {next : Candidate} (h : NextCandidate c pitch next) :
    c.nextCandidate pitch = next := by
  unfold Channel.nextCandidate distance
  rcases h with ⟨held, holds, near, rfl⟩ | ⟨rfl, far⟩
  · rw [holds]
    exact if_pos near
  · split
    · next held holds => exact if_neg (Nat.not_le.mpr (far held holds))
    · rfl

/-- The string with its note confirmed by an estimate and this candidate held (R74). -/
def Channel.waiting (fresh : Bool) (next : Candidate) (c : Channel) : Channel :=
  (c.confirmed fresh).modVoice fun v => { v with candidate := some next }

/-- The estimate that becomes the current pitch leaves no candidate (R78). -/
theorem Channel.waiting_setCurrent (fresh : Bool) (next : Candidate) (pitch : Nat) (c : Channel) :
    (c.waiting fresh next).setCurrent pitch = c.repitched fresh pitch := rfl

section
variable {n : Str} {s : State} {pitch base : Nat} {next : Candidate}

theorem candidateTest_waits (held : NextCandidate (s.channel n) pitch next)
    (short : next.count < (s.channel n).active.stepHold) :
    candidateTest n pitch (s.mod n (Channel.confirmed s.atFrameEnd))
      = s.mod n (Channel.waiting s.atFrameEnd next) := by
  have count : ((s.channel n).confirmed s.atFrameEnd).nextCandidate pitch = next := nextCandidate_eq held
  simp only [candidateTest, State.channel_mod_self, count]
  rw [if_neg (by exact Nat.not_le.mpr short), State.mod_mod]
  rfl

theorem candidateTest_confirms (held : NextCandidate (s.channel n) pitch next)
    (reached : (s.channel n).active.stepHold ≤ next.count) :
    candidateTest n pitch (s.mod n (Channel.confirmed s.atFrameEnd))
      = confirmCandidate n pitch (s.mod n (Channel.waiting s.atFrameEnd next)) := by
  have count : ((s.channel n).confirmed s.atFrameEnd).nextCandidate pitch = next := nextCandidate_eq held
  simp only [candidateTest, State.channel_mod_self, count]
  rw [if_pos (by exact reached), State.mod_mod]
  rfl

/-- The note nearest a pitch lies within half a step of it, and so within every bend range (R70, R74). -/
theorem nearest_within (pitch : Nat) {range : Nat} (one : 1 ≤ range) :
    ((pitch : Int) - 64 * (noteOf pitch : Int)).natAbs ≤ 64 * range := by
  unfold noteOf
  omega

/-- A candidate confirmed on the base note becomes the current pitch (R78). -/
theorem confirmCandidate_same (note : (s.channel n).voice.baseNote = some (noteOf pitch))
    (one : 1 ≤ (s.channel n).active.bendRange) (next : Candidate) :
    confirmCandidate n pitch (s.mod n (Channel.waiting s.atFrameEnd next))
      = reportOnEstimate n (s.mod n fun c => (c.waiting s.atFrameEnd next).setCurrent pitch) := by
  set t := s.mod n fun c => (c.waiting s.atFrameEnd next).setCurrent pitch with t_def
  have same : (((s.mod n (Channel.waiting s.atFrameEnd next)).channel n).voice.baseNote = some (noteOf pitch)) := by
    rw [State.channel_mod_self]; exact note
  have bends : bendTest n pitch t = reportOnEstimate n t := by
    refine bendTest_within (base := noteOf pitch) ?_ ?_
    · rw [t_def, State.channel_mod_self]; exact note
    · rw [t_def, State.channel_mod_self]; exact nearest_within pitch one
  simp only [confirmCandidate, same, if_true, State.mod_mod, ← t_def, bends, ite_self]

end

/-- Settles O37, by whether the candidate's count reaches the step hold. -/
theorem candidateIsHeld : Obligations.CandidateIsHeld := by
  intro n pitch base current s released delivered sounding normal note known
  dsimp only
  intro away next held
  rw [exec_estimate released]
  have read : takeEstimate n s = candidateTest n pitch (s.mod n (Channel.confirmed s.atFrameEnd)) :=
    (takeEstimate_read delivered sounding normal).trans (readEstimate_away note known away)
  refine ⟨fun short => congrArg _ ?_, fun reached same one => ⟨_, rfl, ?_⟩⟩
  · rw [read, candidateTest_waits held short]
    refine State.mod_congr ?_
    rw [← note, ← known]
    rfl
  · have kept := repitched_kept (f := fun c => (c.waiting s.atFrameEnd next).setCurrent pitch)
      (Channel.waiting_setCurrent ..) sounding normal note
    rw [read, candidateTest_confirms held reached, confirmCandidate_same (note.trans (congrArg some same.symm)) one]
    exact ⟨kept.only, kept.source, kept.line, kept.voice, kept.taken, kept.silent, kept.reports⟩

/-! ## A start settled (R73) -/

/-- The voice of a start that a full estimate of this pitch settles (R73). -/
def Voice.settled (fresh : Bool) (pitch : Nat) (v : Voice) : Voice :=
  { confirmedVoice fresh (some (noteOf pitch)) (some pitch) v.candidate v with startKind := some .normal, fix := false }

/-- The string with the estimate taken and its start settled, the fix reservation not yet given up. -/
def Channel.settling (fresh : Bool) (pitch : Nat) (c : Channel) : Channel :=
  c.pitched { c.voice.settled fresh pitch with fix := c.voice.fix } (some pitch)

/-- The queue and the BACKLOG markers are all that a change of them alone can change. -/
theorem QueueOnly.eq {s t : State} (q : QueueOnly s t) : t = { s with queue := t.queue, backlog := t.backlog } := by
  obtain ⟨⟨globals, lock, timebase, running, samples, mute, link, modes, pending⟩, channels⟩ := q
  cases t
  simp only at *
  subst_vars
  rfl

section
variable {n : Str} {s : State} {pitch : Nat}

theorem takeEstimate_settles (delivered : (s.channel n).capture.delivered = some ⟨.full, pitch⟩)
    (sounding : (s.channel n).voice.state = .sounding) (unsettled : (s.channel n).voice.startKind ≠ some .normal) :
    takeEstimate n s = settleStart n pitch (s.mod n Channel.consumed) := by
  rw [takeEstimate_sounding delivered sounding]
  simp [estimateSounding, unsettled]

/-- A start that needs a fix (R73). -/
def Voice.NeedsFix (pitch : Nat) (v : Voice) : Prop :=
  v.startKind = some .unpitched ∨ v.baseNote ≠ some (noteOf pitch)

theorem settleStart_fixes (fixes : (s.channel n).voice.NeedsFix pitch) :
    settleStart n pitch (s.mod n Channel.consumed)
      = offerPitchFix n (noteOf pitch) (offsetFrom (noteOf pitch) pitch) (s.mod n fun c =>
          (c.settling s.atFrameEnd pitch).told (some (offsetFrom (noteOf pitch) pitch))) := by
  have needed : ((s.channel n).voice.startKind = some .unpitched
      || (s.channel n).voice.baseNote ≠ some (noteOf pitch)) = true := by
    simpa [Voice.NeedsFix] using fixes
  simp only [settleStart, State.channel_mod_self, Channel.consumed_voice, needed, if_true, State.mod_mod]
  rfl

theorem settleStart_confirms (confirms : ¬(s.channel n).voice.NeedsFix pitch) :
    settleStart n pitch (s.mod n Channel.consumed)
      = reportOnEstimate n (releaseFix n (s.mod n (Channel.settling s.atFrameEnd pitch))) := by
  have needless : ((s.channel n).voice.startKind = some .unpitched
      || (s.channel n).voice.baseNote ≠ some (noteOf pitch)) = false := by
    rw [← Bool.not_eq_true]
    simpa [Voice.NeedsFix] using confirms
  simp only [settleStart, State.channel_mod_self, Channel.consumed_voice, needless, Bool.false_eq_true, if_false,
    State.mod_mod]
  rfl

/-! ## The fix reservation (R127, R129) -/

/-- What the queue has admitted is told by the queue, the BACKLOG markers and the settings. -/
theorem admitted_congr {s s' t t' : State} {rs : List Record} (admitted : Admitted s' t' rs)
    (queue : s'.queue = s.queue) (backlog : s'.backlog = s.backlog) (queue' : t.queue = t'.queue)
    (backlog' : t.backlog = t'.backlog) (globals : t.globals = t'.globals) : Admitted s t rs := by
  unfold Admitted Joined at *
  rwa [queue', backlog', globals, ← queue, ← backlog]

theorem offerPitchFix_reserved (reported : (s.channel n).voice.reported = true) (fix : (s.channel n).voice.fix = true)
    (base : Nat) (offset : Int) :
    Admitted s (offerPitchFix n base offset s) [.pitchFix n (s.channel n).voice.serial base offset]
      ∧ (offerPitchFix n base offset s).queue.reserved = s.queue.reserved - 1
      ∧ (offerPitchFix n base offset s).channel n = (s.channel n).modVoice fun v => { v with fix := false } := by
  simp only [offerPitchFix, reported, fix, Bool.and_true, if_true]
  exact ⟨updateBacklog_admitted rfl rfl, (updateBacklog_account _).1, by simp⟩

theorem offerPitchFix_unreserved (fix : (s.channel n).voice.fix = false) (base : Nat) (offset : Int) :
    offerPitchFix n base offset s = s := by
  simp [offerPitchFix, fix]

theorem releaseFix_reserved (fix : (s.channel n).voice.fix = true) :
    Admitted s (releaseFix n s) [] ∧ (releaseFix n s).queue.reserved = s.queue.reserved - 1 := by
  simp only [releaseFix, fix, if_true]
  exact ⟨updateBacklog_admitted (by simp) rfl, (updateBacklog_account _).1⟩

theorem releaseFix_unreserved (fix : (s.channel n).voice.fix = false) : releaseFix n s = s := by
  simp [releaseFix, fix]

theorem Channel.unfixed_eq_self {c : Channel} (fix : c.voice.fix = false) :
    (c.modVoice fun v => { v with fix := false }) = c := by
  rw [modVoice, ← fix]

/-- A release of the reservation is a change of the queue and of the voice's mark of it. -/
theorem releaseFix_eq (n : Str) (s : State) :
    releaseFix n s = { s.mod n (.modVoice fun v => { v with fix := false }) with
      queue := (releaseFix n s).queue, backlog := (releaseFix n s).backlog } := by
  cases fix : (s.channel n).voice.fix
  · rw [releaseFix_unreserved fix, State.mod_eq_self (Channel.unfixed_eq_self fix)]
  · have released : releaseFix n s
        = updateBacklog ((s.mod n (.modVoice fun v => { v with fix := false })).unreserve 1) := by
      simp [releaseFix, fix]
    rw [released]
    exact ((unreserve_queueOnly ..).trans (updateBacklog_queueOnly _)).eq

/-! ## The start settled -/

/-- What a fix leaves (R73, R114, R129). -/
structure StartFixed (n : Str) (pitch : Nat) (s t : State) : Prop where
  only : OnlyString n s t
  channel : t.channel n = ((s.channel n).pitched ((s.channel n).voice.settled s.atFrameEnd pitch)
    (some pitch)).told (some (offsetFrom (noteOf pitch) pitch))
  reserved : (s.channel n).voice.fix = true →
    Admitted s t [.pitchFix n (s.channel n).voice.serial (noteOf pitch) (offsetFrom (noteOf pitch) pitch)]
      ∧ t.queue.reserved = s.queue.reserved - 1
  unreserved : (s.channel n).voice.fix = false → t.queue = s.queue ∧ t.backlog = s.backlog

theorem settleStart_fixed (lawful : (s.channel n).voice.Lawful) (fixes : (s.channel n).voice.NeedsFix pitch) :
    StartFixed n pitch s (settleStart n pitch (s.mod n Channel.consumed)) := by
  rw [settleStart_fixes fixes]
  set offset := offsetFrom (noteOf pitch) pitch
  set u := s.mod n fun c => (c.settling s.atFrameEnd pitch).told (some offset) with u_def
  have channel : u.channel n = ((s.channel n).settling s.atFrameEnd pitch).told (some offset) :=
    State.channel_mod_self ..
  have only := (mod_onlyString s n fun c => (c.settling s.atFrameEnd pitch).told (some offset)).trans
    (offerPitchFix_onlyString n (noteOf pitch) offset u)
  cases fix : (s.channel n).voice.fix
  · have still := offerPitchFix_unreserved (n := n) (s := u) (by rw [channel]; exact fix) (noteOf pitch) offset
    rw [still] at only ⊢
    refine ⟨only, ?_, fun held => absurd (fix.symm.trans held) nofun, fun _ => ⟨rfl, rfl⟩⟩
    rw [channel]
    exact (Channel.unfixed_eq_self
      (c := ((s.channel n).settling s.atFrameEnd pitch).told (some offset)) fix).symm.trans rfl
  · obtain ⟨admitted, reserved, fixed⟩ := offerPitchFix_reserved (n := n) (s := u)
      (by rw [channel]; exact lawful.fix fix) (by rw [channel]; exact fix) (noteOf pitch) offset
    rw [channel] at admitted fixed
    exact ⟨only, fixed, fun _ => ⟨admitted, reserved⟩, fun free => absurd (fix.symm.trans free) nofun⟩

/-- A confirmation (R73): `u` is the state with the fix reservation given up and nothing else done, before which the
report is not considered (log 31). -/
theorem settleStart_confirmed (sounding : (s.channel n).voice.state = .sounding)
    (confirms : ¬(s.channel n).voice.NeedsFix pitch) :
    ∃ u : State, QueueOnly s u
      ∧ ((s.channel n).voice.fix = true → Admitted s u [] ∧ u.queue.reserved = s.queue.reserved - 1)
      ∧ ((s.channel n).voice.fix = false → u.queue = s.queue ∧ u.backlog = s.backlog)
      ∧ NoteKept n ((s.channel n).voice.settled s.atFrameEnd pitch) (some pitch) (noteOf pitch) u
        (settleStart n pitch (s.mod n Channel.consumed)) := by
  set t := s.mod n (Channel.settling s.atFrameEnd pitch) with t_def
  have channel : t.channel n = (s.channel n).settling s.atFrameEnd pitch := State.channel_mod_self ..
  refine ⟨{ s with queue := (releaseFix n t).queue, backlog := (releaseFix n t).backlog },
    ⟨⟨rfl, rfl, rfl, rfl, rfl, rfl, rfl, rfl, rfl⟩, rfl⟩, fun fix => ?_, fun fix => ?_, ?_⟩
  · obtain ⟨admitted, reserved⟩ := releaseFix_reserved (n := n) (s := t) (by rw [channel]; exact fix)
    exact ⟨admitted_congr admitted rfl rfl rfl rfl (releaseFix_onlyString n t).outside.globals.symm, reserved⟩
  · rw [releaseFix_unreserved (by rw [channel]; exact fix)]
    exact ⟨rfl, rfl⟩
  · rw [settleStart_confirms confirms, ← t_def, releaseFix_eq, t_def, State.mod_mod, ← t_def]
    exact reportOnEstimate_kept
      (s := { s with queue := (releaseFix n t).queue, backlog := (releaseFix n t).backlog })
      (f := fun c => (c.settling s.atFrameEnd pitch).modVoice fun v => { v with fix := false })
      rfl sounding rfl rfl rfl rfl rfl

end

/-- Settles O35, by whether the note in force needs a fix. -/
theorem startIsSettled : Obligations.StartIsSettled := by
  intro n pitch s released lawful delivered sounding unsettled
  dsimp only
  refine ⟨_, exec_estimate released n, ?_⟩
  rw [takeEstimate_settles delivered sounding unsettled]
  by_cases fixes : (s.channel n).voice.NeedsFix pitch
  · obtain ⟨only, channel, reserved, unreserved⟩ := settleStart_fixed lawful fixes
    rw [channel]
    exact ⟨only, ⟨rfl, rfl, rfl, rfl, rfl, rfl, rfl⟩, rfl, rfl, ⟨rfl, rfl, rfl⟩,
      fun _ => ⟨rfl, reserved, unreserved⟩,
      fun confirms => absurd fixes confirms⟩
  · obtain ⟨u, queue, reserved, unreserved, kept⟩ := settleStart_confirmed sounding fixes
    have same := queue.channel n
    obtain ⟨only, source, line, voice, taken, silent, reports⟩ := kept
    rw [same] at source line taken silent reports
    exact ⟨(queue.onlyString n).trans only, source, line, voice, taken, fun needed => absurd needed fixes,
      fun _ => ⟨u, same, queue.outside.globals, reserved, unreserved, silent,
        fun onEstimate => reports onEstimate pitch (by rw [taken.2.2])⟩⟩

end Sys2Proof.Machine
end

section
/-! A note that ends as the next begins with no new pick: the legato step (R78) and the rebase with its closing report
(R79, R117), with their statements. -/

namespace Sys2Proof.Machine

/-! ## The NOTE-OFF that gives its slot to the next note (R127 to R129) -/

section
variable {n : Str} {s : State} {reason : OffReason}

/-- What the NOTE-OFF of a note with no fix reservation leaves: the commitment as it was, so that BACKLOG stands
(R127, R129, R136). -/
structure NoteClosed (n : Str) (reason : OffReason) (s t : State) : Prop where
  channel : t.channel n = (s.channel n).modVoice fun v => { v with reported := false, fix := false }
  room : t.hasRoom 2 = s.hasRoom 2
  backlog : t.backlog = s.backlog
  reported : (s.channel n).voice.reported = true → t.queue = { s.queue with
    records := s.queue.records ++ [.noteOff n (s.channel n).voice.serial reason], reserved := s.queue.reserved - 1 }
  unreported : (s.channel n).voice.reported = false → t.queue = s.queue

theorem offerNoteOff_closed (fix : (s.channel n).voice.fix = false) (law : BacklogLaw s)
    (held : (s.channel n).voice.reported = true → 1 ≤ s.queue.reserved) (reason : OffReason) :
    NoteClosed n reason s (offerNoteOff n reason s) := by
  cases reported : (s.channel n).voice.reported
  · rw [offerNoteOff_unreported reported]
    refine ⟨?_, rfl, rfl, fun told => absurd (reported.symm.trans told) nofun, fun _ => rfl⟩
    rw [Channel.modVoice, Voice.unreported_eq_self reported fix]
  · set t := ((s.mod n (.modVoice fun v => { v with reported := false, fix := false })).unreserve 1).append
      (.noteOff n (s.channel n).voice.serial reason) with t_def
    have queue : t.queue = { s.queue with
        records := s.queue.records ++ [.noteOff n (s.channel n).voice.serial reason]
        reserved := s.queue.reserved - 1 } := rfl
    have commitment : t.queue.commitment = s.queue.commitment := by
      have held := held reported
      rw [queue, Queue.commitment, Queue.commitment, List.length_append, List.length_singleton]
      dsimp only
      omega
    have closed : offerNoteOff n reason s = t := by
      have kept : BacklogLaw t := by
        unfold BacklogLaw State.backlogNow
        rw [commitment]
        exact law
      rw [← updateBacklog_of_law kept]
      simp only [offerNoteOff, reported, fix, if_true, Bool.false_eq_true, if_false]
      rfl
    rw [closed]
    refine ⟨?_, ?_, rfl, fun _ => queue, fun untold => absurd (reported.symm.trans untold) nofun⟩
    · exact State.channel_mod_self ..
    · unfold State.hasRoom
      rw [commitment]

end

/-! ## The next note -/

section
variable {n : Str} {s x : State} {w : Voice} {r : Reporter} {pitch velocity : Nat} {flag : NoteFlag}

/-- Records admitted behind others that joined with no comparison between them. -/
theorem admitted_behind {y t : State} {rs ks : List Record} {reserved : Nat} (admitted : Admitted y t ks)
    (queue : y.queue = { x.queue with records := x.queue.records ++ rs, reserved := reserved })
    (backlog : y.backlog = x.backlog) : Admitted x t (rs ++ ks) := by
  unfold Admitted Joined at *
  rw [queue, backlog] at admitted
  simpa only [List.append_assoc] using admitted

/-- What a legato step and a rebase have in common: the note follows on string `n` of the state the estimate found, and
the queue passes from one note to the next, `x` being the state in which the note ends. -/
theorem nextNote_follows (only : OnlyString n s x)
    (channel : x.channel n = { (s.channel n).consumed with voice := w, reporter := r }) (fix : w.fix = false)
    (damp : w.damp = false) (openCause : w.openCause = false) (serial : w.serial = (s.channel n).voice.serial)
    (present : w.velocity = some velocity) (inherited : (s.channel n).voice.velocity = some velocity)
    (plain : flag.mayNeedFix = false) (law : BacklogLaw x) (held : w.reported = true → 1 ≤ x.queue.reserved)
    (pitch : Nat) (reason : OffReason) :
    NoteFollows n (noteOf pitch) pitch (x.hasRoom 2) s (nextNote n pitch reason flag x)
      ∧ NotePassedOn w.reported (.noteOff n (s.channel n).voice.serial reason)
        (.noteOn n ((s.channel n).voice.serial + 1) (noteOf pitch) velocity (offsetFrom (noteOf pitch) pitch) flag)
        x (nextNote n pitch reason flag x) := by
  have closed := offerNoteOff_closed (n := n) (s := x) (by rw [channel]; exact fix) law (by rwa [channel]) reason
  have closing := offerNoteOff_onlyString n reason x
  have next : nextNote n pitch reason flag x = beginNote n (noteOf pitch) (some pitch)
      (offsetFrom (noteOf pitch) pitch) .normal flag velocity (offerNoteOff n reason x) := by
    simp only [nextNote, channel, present, Option.getD_some]
  rw [next]
  set y := offerNoteOff n reason x
  have closedChannel : y.channel n = { (s.channel n).consumed with
      voice := { w with reported := false, fix := false }, reporter := r } := by
    rw [closed.channel, channel]
    rfl
  have begun := beginNote_begun (n := n) (s := y) (by rw [closedChannel]) (by rw [closedChannel]) (noteOf pitch)
    (some pitch) (offsetFrom (noteOf pitch) pitch) .normal flag velocity
  have note := beginNote_channel (n := n) (s := y) (by rw [closedChannel]) (by rw [closedChannel]) (noteOf pitch)
    (some pitch) (offsetFrom (noteOf pitch) pitch) .normal flag velocity
  have room : flag.room = 2 := by rw [NoteFlag.room, plain]; rfl
  have fresh : y.atFrameEnd = s.atFrameEnd := by
    rw [State.atFrameEnd, closing.outside.frameSamples, only.outside.frameSamples]
    rfl
  obtain ⟨-, -, admitted, refused⟩ := begun
  rw [closedChannel, room, closed.room, plain, fresh] at note
  rw [closedChannel, room, closed.room] at admitted
  rw [room, closed.room] at refused
  dsimp only at admitted
  rw [serial] at admitted
  refine ⟨⟨(only.trans closing).trans (beginNote_onlyString ..), ?_, ?_, ?_, ?_, ?_, ?_⟩,
    fun reported => ?_, fun unreported => ?_⟩
  · rw [note]; exact ⟨rfl, rfl, rfl, rfl, rfl, rfl, rfl⟩
  · rw [note]; rfl
  · rw [note]; rfl
  · rw [note]; rfl
  · rw [note, inherited]
    simp only [damp, openCause, serial, Bool.and_false]
    rfl
  · rw [note]; rfl
  · have passed := closed.reported (by rw [channel]; exact reported)
    rw [channel] at passed
    dsimp only at passed
    rw [serial] at passed
    have one := held reported
    refine ⟨fun fits => ?_, fun full => ?_⟩
    · obtain ⟨joined, reserved⟩ := admitted fits
      exact ⟨admitted_behind joined passed closed.backlog, by rw [reserved, passed]; dsimp only; omega⟩
    · obtain ⟨queue, backlog⟩ := refused full
      exact ⟨by rw [queue, passed], backlog.trans closed.backlog⟩
  · have kept := closed.unreported (by rw [channel]; exact unreported)
    refine ⟨fun fits => ?_, fun full => ?_⟩
    · obtain ⟨joined, reserved⟩ := admitted fits
      exact ⟨admitted_congr joined kept closed.backlog rfl rfl rfl, by rw [reserved, kept]⟩
    · obtain ⟨queue, backlog⟩ := refused full
      exact ⟨by rw [queue, kept], backlog.trans closed.backlog⟩

end

/-- Settles O38, by the note that follows a candidate confirmed away from the base note. -/
theorem legatoStepIsMade : Obligations.LegatoStepIsMade := by
  intro n pitch base current next velocity s released lawful law delivered sounding normal note known present fix held
  dsimp only
  intro away candidate reached other
  obtain ⟨damp, openCause⟩ := lawful.unmuted (by simp [sounding])
  set x := s.mod n (Channel.waiting s.atFrameEnd next) with x_def
  have channel : x.channel n = (s.channel n).waiting s.atFrameEnd next := State.channel_mod_self ..
  have steps : takeEstimate n s = nextNote n pitch .legato .legato x := by
    have elsewhere : (x.channel n).voice.baseNote ≠ some (noteOf pitch) := by
      rw [channel]
      exact fun same => other (Option.some.inj (same.symm.trans note))
    rw [takeEstimate_read delivered sounding normal, readEstimate_away note known away,
      candidateTest_confirms candidate reached, ← x_def, confirmCandidate]
    exact if_neg elsewhere
  obtain ⟨follows, passed⟩ := nextNote_follows (n := n) (s := s) (x := x) (flag := .legato) (mod_onlyString ..)
    (channel.trans rfl) fix damp openCause rfl present present rfl law held pitch .legato
  refine ⟨_, exec_estimate released n, ?_⟩
  rw [steps]
  exact ⟨follows, passed⟩

/-! ## The closing report of a rebase (R117) -/

section
variable {n : Str} {s : State} {base pitch : Nat}

/-- A GLIDE offered takes no reserved slot, and BACKLOG says what it finds behind it (R127, R136). -/
theorem offerGlide_account (n : Str) (offset : Int) (s : State) :
    (offerGlide n offset s).queue.reserved = s.queue.reserved
      ∧ (BacklogLaw s → BacklogLaw (offerGlide n offset s)) := by
  cases answer : glideAnswer n s with
  | merged =>
    obtain ⟨queue, backlog, -⟩ := offerGlide_merged answer offset
    refine ⟨by rw [queue], fun law => ?_⟩
    have globals := (offerGlide_onlyString n offset s).outside.globals
    unfold BacklogLaw State.backlogNow Queue.commitment at *
    rw [queue, backlog, globals, mergeGlide, List.length_map]
    exact law
  | admitted =>
    simp only [offerGlide, answer]
    obtain ⟨reserved, -, -, law⟩ := updateBacklog_account
      ((s.mod n fun c => { c with reporter := { c.reporter with lastReported := some offset } }).append
        (.glide n (s.channel n).voice.serial offset))
    exact ⟨reserved, fun _ => law⟩
  | dropped =>
    rw [offerGlide_dropped answer]
    exact ⟨rfl, id⟩

theorem considerReport_account (n : Str) (offset : Int) (s : State) :
    (considerReport n offset s).queue.reserved = s.queue.reserved
      ∧ (BacklogLaw s → BacklogLaw (considerReport n offset s)) := by
  unfold considerReport
  dsimp only
  split
  · exact offerGlide_account n offset s
  · exact ⟨rfl, id⟩

/-- The edge of the bend range that the pitch has left (R117). -/
def Channel.edge (base pitch : Nat) (c : Channel) : Int :=
  if pitch < 64 * base then -(64 * (c.active.bendRange : Int)) else 64 * (c.active.bendRange : Int)

theorem closingReport_eq (n : Str) (base pitch : Nat) (s : State) :
    closingReport n base pitch s = considerReport n ((s.channel n).edge base pitch) s := by
  have below : offsetFrom base pitch < 0 ↔ pitch < 64 * base := by
    unfold offsetFrom
    omega
  simp only [closingReport, below, Channel.edge]

/-- The report that closes a note before its rebase (R117): the string's last reported offset and the queue are all
that it changes of the string as the estimate becomes its pitch. -/
structure ClosingReport (n : Str) (base pitch : Nat) (s x : State) : Prop where
  only : OnlyString n s x
  channel : ∃ last, x.channel n = ((s.channel n).repitched s.atFrameEnd pitch).told last
  report : ReportConsidered n (s.channel n).voice.reported ((s.channel n).edge base pitch) s x
  reserved : x.queue.reserved = s.queue.reserved
  backlog : BacklogLaw s → BacklogLaw x

theorem closingReport_of_repitched (sounding : (s.channel n).voice.state = .sounding)
    (normal : (s.channel n).voice.startKind = some .normal) (note : (s.channel n).voice.baseNote = some base)
    (pitch : Nat) :
    ClosingReport n base pitch s (closingReport n base pitch (s.mod n (Channel.repitched s.atFrameEnd pitch))) := by
  set u := s.mod n (Channel.repitched s.atFrameEnd pitch) with u_def
  have channel : u.channel n = (s.channel n).repitched s.atFrameEnd pitch := State.channel_mod_self ..
  have pitched : u.channel n = _ := channel.trans (Channel.repitched_eq note ..)
  have edge : (u.channel n).edge base pitch = (s.channel n).edge base pitch := by rw [pitched]; rfl
  have reportable : (u.channel n).reportable = (s.channel n).voice.reported := by
    rw [pitched]
    exact Channel.reportable_of_pitched sounding rfl normal
  rw [closingReport_eq, edge]
  obtain ⟨last, told⟩ := considerReport_channel n ((s.channel n).edge base pitch) u
  obtain ⟨reserved, backlog⟩ := considerReport_account n ((s.channel n).edge base pitch) u
  have report := considerReport_considered n ((s.channel n).edge base pitch) u
  rw [reportable] at report
  exact ⟨(mod_onlyString ..).trans (considerReport_onlyString ..), ⟨last, by rw [told, channel]⟩,
    reportConsidered_congr_left report rfl rfl (by rw [pitched]; rfl) (by rw [pitched]; rfl) (by rw [pitched]; rfl),
    reserved, backlog⟩

end

/-- Settles O39, by the note that follows the closing report. -/
theorem rebaseIsMade : Obligations.RebaseIsMade := by
  intro n pitch base current velocity s released lawful law delivered sounding normal note known present fix held
  dsimp only
  intro bends beyond
  obtain ⟨damp, openCause⟩ := lawful.unmuted (by simp [sounding])
  have steps : takeEstimate n s = nextNote n pitch .slid .slid
      (closingReport n base pitch (s.mod n (Channel.repitched s.atFrameEnd pitch))) := by
    have channel : (s.mod n (Channel.repitched s.atFrameEnd pitch)).channel n = _ :=
      (State.channel_mod_self ..).trans (Channel.repitched_eq note ..)
    rw [takeEstimate_read delivered sounding normal, readEstimate_bends known bends,
      bendTest_beyond (base := base) (by rw [channel]; rfl) (by rw [channel]; exact beyond)]
  obtain ⟨only, ⟨last, channel⟩, report, reserved, backlog⟩ :=
    closingReport_of_repitched (n := n) (s := s) sounding normal note pitch
  rw [Channel.repitched_eq note] at channel
  obtain ⟨follows, passed⟩ := nextNote_follows (n := n) (flag := .slid) only (channel.trans rfl) fix damp openCause
    rfl present present rfl (backlog law) (by rw [reserved]; exact held) pitch .slid
  refine ⟨_, _, exec_estimate released n, only, report, ?_⟩
  rw [steps]
  exact ⟨follows, passed⟩

end Sys2Proof.Machine
end

section
/-! Notes that end on one string after another within one event: what each leaves of the queue, and FLUSH (R92). -/

namespace Sys2Proof.Machine

/-! ## One string among those taken in order -/

section
variable {op : Str → State → State} (only : ∀ n s, OnlyString n s (op n s))
include only

theorem forStrings_others {n : Str} {l : List Str} (out : n ∉ l) (s : State) :
    (forStrings op l s).channel n = s.channel n := by
  induction l generalizing s with
  | nil => rfl
  | cons m l ih =>
    exact (ih (List.not_mem_of_not_mem_cons out) (op m s)).trans
      ((only m s).others n (List.ne_of_not_mem_cons out))

/-- A string of the list becomes what the operation makes of it, in a state that differs from the first by other
strings and the queue at most. -/
theorem forStrings_string {n : Str} {l : List Str} (nodup : l.Nodup) (member : n ∈ l) (s : State) :
    ∃ u, Outside s u ∧ u.channel n = s.channel n ∧ (forStrings op l s).channel n = (op n u).channel n := by
  induction l generalizing s with
  | nil => cases member
  | cons m l ih =>
    obtain ⟨fresh, nodup⟩ := List.nodup_cons.mp nodup
    rcases List.mem_cons.mp member with rfl | member
    · exact ⟨s, .refl s, rfl, forStrings_others only fresh (op n s)⟩
    · obtain ⟨u, outside, same, taken⟩ := ih nodup member (op m s)
      exact ⟨u, (only m s).outside.trans outside,
        same.trans ((only m s).others n fun e => fresh (e ▸ member)), taken⟩

end

/-! ## The end of one string's note in the queue (R63, R127, R129) -/

/-- The NOTE-OFFs of the reported notes of some strings, in their order. -/
def State.offRecords (reason : OffReason) (l : List Str) (s : State) : List Record :=
  (l.filter fun n => (s.channel n).voice.reported).map fun n => .noteOff n (s.channel n).voice.serial reason

/-- The slots that some strings hold. -/
def State.slotsOf (l : List Str) (s : State) : Nat := (l.map fun n => (s.channel n).voice.slots).sum

/-- What the end of the notes of some strings leaves of the queue: the reported ones' NOTE-OFFs in order, and their
slots given back (R127, R129, R136). -/
structure NotesEnded (reason : OffReason) (l : List Str) (s t : State) : Prop where
  kept : t.keptRecords = s.keptRecords ++ s.offRecords reason l
  reserved : t.queue.reserved = s.queue.reserved - s.slotsOf l
  gateOpen : t.queue.gateOpen = s.queue.gateOpen
  dropped : s.queue.dropped = true → t.queue.dropped = true
  backlog : BacklogLaw s → BacklogLaw t

theorem NotesEnded.nil (reason : OffReason) (s : State) : NotesEnded reason [] s s :=
  ⟨(List.append_nil _).symm, rfl, rfl, id, id⟩

section
variable {reason : OffReason} {n : Str} {l : List Str} {s t u : State}

/-- The notes of a list end with that of its first string and then those of the rest. -/
theorem NotesEnded.cons (first : NotesEnded reason [n] s t) (rest : NotesEnded reason l t u)
    (others : ∀ m ∈ l, t.channel m = s.channel m) : NotesEnded reason (n :: l) s u := by
  have records : t.offRecords reason l = s.offRecords reason l := by
    have told : l.filter (fun m => (t.channel m).voice.reported) = l.filter fun m => (s.channel m).voice.reported :=
      List.filter_congr fun m member => by rw [others m member]
    rw [State.offRecords, State.offRecords, told]
    exact List.map_congr_left fun m member => by rw [others m (List.mem_of_mem_filter member)]
  have slots : t.slotsOf l = s.slotsOf l :=
    congrArg List.sum (List.map_congr_left fun m member => by rw [others m member])
  refine ⟨?_, ?_, rest.gateOpen.trans first.gateOpen, rest.dropped ∘ first.dropped,
    rest.backlog ∘ first.backlog⟩
  · rw [rest.kept, first.kept, records, List.append_assoc]
    simp only [State.offRecords, ← List.map_append, ← List.filter_append, List.singleton_append]
  · rw [rest.reserved, first.reserved, slots, Nat.sub_sub]
    simp [State.slotsOf]

/-- Over a list of strings whose voices are lawful, the notes end in the order of the list. -/
theorem forStrings_notesEnded {op : Str → State → State} (only : ∀ n s, OnlyString n s (op n s))
    (ends : ∀ n s, (s.channel n).Lawful → NotesEnded reason [n] s (op n s)) (nodup : l.Nodup)
    (lawful : ∀ n ∈ l, (s.channel n).Lawful) : NotesEnded reason l s (forStrings op l s) := by
  induction l generalizing s with
  | nil => exact .nil reason s
  | cons m l ih =>
    obtain ⟨fresh, nodup⟩ := List.nodup_cons.mp nodup
    have others (k : Str) (member : k ∈ l) : (op m s).channel k = s.channel k :=
      (only m s).others k fun e => fresh (e ▸ member)
    refine (ends m s (lawful m List.mem_cons_self)).cons (ih nodup fun k member => ?_) others
    rw [others k member]
    exact lawful k (List.mem_cons_of_mem _ member)

theorem State.offRecords_single (reason : OffReason) (n : Str) (s : State) :
    s.offRecords reason [n] = if (s.channel n).voice.reported = true
      then [.noteOff n (s.channel n).voice.serial reason] else [] := by
  cases reported : (s.channel n).voice.reported <;> simp [offRecords, reported]

theorem State.slotsOf_single (n : Str) (s : State) : s.slotsOf [n] = (s.channel n).voice.slots :=
  List.sum_singleton

theorem State.slotsOf_all (s : State) : s.slotsOf Str.all = s.slotsHeld := by
  simp [slotsOf, slotsHeld, Str.all]
  omega

/-- A voice that tells the host nothing gives the queue nothing to do. -/
theorem NotesEnded.of_unreported (unreported : (s.channel n).voice.reported = false)
    (unfixed : (s.channel n).voice.fix = false) (queue : t.queue = s.queue) (backlog : t.backlog = s.backlog)
    (globals : t.globals = s.globals) : NotesEnded reason [n] s t := by
  have slots : (s.channel n).voice.slots = 0 := by rw [Voice.slots, unreported, unfixed]; rfl
  refine ⟨?_, ?_, by rw [queue], by rw [queue]; exact id, fun law => ?_⟩
  · rw [State.offRecords_single, unreported, State.keptRecords, queue]
    exact (List.append_nil _).symm
  · rw [State.slotsOf_single, slots, queue, Nat.sub_zero]
  · unfold BacklogLaw State.backlogNow at *
    rw [queue, backlog, globals]
    exact law

theorem offerNoteOff_backlog (n : Str) (reason : OffReason) (law : BacklogLaw s) :
    BacklogLaw (offerNoteOff n reason s) := by
  unfold offerNoteOff
  dsimp only
  split
  · exact (updateBacklog_account _).2.2.2
  · exact law

/-- A note that ends gives the queue its NOTE-OFF and its slots, whatever becomes of its string. -/
theorem endNote_notesEnded (lawful : (s.channel n).voice.Lawful) (reason : OffReason) (f : Channel → Channel) :
    NotesEnded reason [n] s ((endNote n reason s).mod n f) := by
  obtain ⟨kept, reserved, gateOpen, dropped⟩ := offerNoteOff_account lawful reason
  refine ⟨?_, ?_, gateOpen, dropped, fun law => offerNoteOff_backlog n reason law⟩
  · rw [State.offRecords_single]; exact kept
  · rw [State.slotsOf_single]; exact reserved

end

/-! ## FLUSH (R92) -/

section
variable {n : Str} {s : State}

theorem flushVoice_of_calm (calm : (s.channel n).voice.state = .quiet ∨ (s.channel n).voice.state = .silent
      ∨ (s.channel n).voice.state = .muted) : flushVoice n s = s := by
  rcases calm with calm | calm | calm <;> simp [flushVoice, calm]

theorem flushVoice_of_attack (attack : (s.channel n).voice.state = .acquiring ∨ (s.channel n).voice.state = .suspect)
    (opened : (s.channel n).detector.gate ≠ .closed) : flushVoice n s = s.mod n (.entering .silent) := by
  rcases attack with attack | attack <;> simp [flushVoice, attack, opened]

theorem flushVoice_of_sounding (lawful : (s.channel n).voice.Lawful) (sounding : (s.channel n).voice.state = .sounding)
    (opened : (s.channel n).detector.gate ≠ .closed) :
    flushVoice n s = (endNote n .flush s).mod n (.entering .silent) := by
  have gate : ((endNote n .flush s).channel n).detector.gate ≠ .closed := by
    rw [endNote_channel lawful]; exact opened
  simp [flushVoice, sounding, gate]

/-- The three kinds of voice that a FLUSH finds (R92). -/
theorem VoiceState.flush_cases (st : VoiceState) :
    st = .sounding ∨ (st = .acquiring ∨ st = .suspect) ∨ st = .quiet ∨ st = .silent ∨ st = .muted := by
  cases st <;> simp

theorem flushVoice_notesEnded (lawful : (s.channel n).Lawful) : NotesEnded .flush [n] s (flushVoice n s) := by
  have untold (other : (s.channel n).voice.state ≠ .sounding) := lawful.voice.unreported other
  rcases VoiceState.flush_cases (s.channel n).voice.state with sounding | attack | calm
  · rw [flushVoice_of_sounding lawful.voice sounding
      (lawful.gate.2 (by simp [sounding]) (by simp [sounding]))]
    exact endNote_notesEnded lawful.voice .flush _
  · obtain ⟨unreported, unfixed⟩ := untold (by rcases attack with attack | attack <;> simp [attack])
    rw [flushVoice_of_attack attack (lawful.gate.2 (by rcases attack with attack | attack <;> simp [attack])
      (by rcases attack with attack | attack <;> simp [attack]))]
    exact .of_unreported unreported unfixed rfl rfl rfl
  · obtain ⟨unreported, unfixed⟩ := untold (by rcases calm with calm | calm | calm <;> simp [calm])
    rw [flushVoice_of_calm calm]
    exact .of_unreported unreported unfixed rfl rfl rfl

/-- What FLUSH makes of a string (R92, R119). -/
structure Flushed (c d : Channel) : Prop where
  source : c.SameSource d
  capture : d.capture = c.capture
  silenced : c.voice.state = .sounding ∨ c.voice.state = .acquiring ∨ c.voice.state = .suspect →
    d.voice = bareVoice .silent c.voice ∧ d.bleed.timer = none
  stands : c.voice.state = .quiet ∨ c.voice.state = .silent ∨ c.voice.state = .muted → d = c
  lowered : c.voice.state = .sounding → d.gateLine.high = false ∧ d.gateLine.drop = some 0

theorem flushVoice_flushed (lawful : (s.channel n).Lawful) :
    Flushed (s.channel n) ((flushVoice n s).channel n) := by
  rcases VoiceState.flush_cases (s.channel n).voice.state with sounding | attack | calm
  · rw [flushVoice_of_sounding lawful.voice sounding (lawful.gate.2 (by simp [sounding]) (by simp [sounding])),
      State.channel_mod_self, endNote_channel lawful.voice]
    exact ⟨⟨rfl, rfl, rfl, rfl, rfl, rfl, rfl⟩, rfl,
      fun _ => ⟨lawful.voice.ended_entering (by simp [sounding]) .silent, rfl⟩,
      fun calm => by simp [sounding] at calm,
      fun _ => ⟨rfl, rfl⟩⟩
  · have notSounding : (s.channel n).voice.state ≠ .sounding := by
      rcases attack with attack | attack <;> simp [attack]
    have notMuted : (s.channel n).voice.state ≠ .muted := by rcases attack with attack | attack <;> simp [attack]
    have notQuiet : (s.channel n).voice.state ≠ .quiet := by rcases attack with attack | attack <;> simp [attack]
    have notSilent : (s.channel n).voice.state ≠ .silent := by rcases attack with attack | attack <;> simp [attack]
    rw [flushVoice_of_attack attack (lawful.gate.2 notQuiet notMuted), State.channel_mod_self]
    exact ⟨⟨rfl, rfl, rfl, rfl, rfl, rfl, rfl⟩, rfl,
      fun _ => ⟨lawful.voice.entering_bare notSounding notMuted .silent, rfl⟩,
      fun calm => by simp [notQuiet, notSilent, notMuted] at calm, fun sounding => absurd sounding notSounding⟩
  · rw [flushVoice_of_calm calm]
    exact ⟨⟨rfl, rfl, rfl, rfl, rfl, rfl, rfl⟩, rfl,
      fun active => by rcases calm with calm | calm | calm <;> simp [calm] at active, fun _ => rfl,
      fun sounding => by rcases calm with calm | calm | calm <;> simp [calm] at sounding⟩

end

/-- Settles O19, by the voices of the strings taken one after another. -/
theorem flushEndsEveryNote : Obligations.FlushEndsEveryNote := by
  intro rest s started awaits lawful
  have taken : exec .flush s = .next (flushRule 0x0a [] (s.taken rest)) :=
    handled_rule awaits started (by decide) false flushRule
  have outside := forStrings_outside flushVoice (fun n t => (flushVoice_onlyString n t).outside) Str.all (s.taken rest)
  have ended := forStrings_notesEnded (l := Str.all) (s := s.taken rest) flushVoice_onlyString
    (fun n t => flushVoice_notesEnded) Str.all_nodup fun n _ => lawful n
  refine ⟨_, taken, ⟨_, rfl, rfl, rfl⟩, outside.globals, outside.lock, outside.mute, outside.modes,
    outside.timebase, outside.frameSamples, ended.kept, ?_, ended.gateOpen, ended.backlog, fun n => ?_⟩
  · exact ended.reserved.trans (congrArg _ (State.slotsOf_all s))
  · obtain ⟨u, -, same, flushed⟩ := forStrings_string flushVoice_onlyString Str.all_nodup n.mem_all (s.taken rest)
    have same : u.channel n = s.channel n := same
    have made := flushVoice_flushed (n := n) (s := u) (same ▸ lawful n)
    rw [← flushed, same] at made
    exact ⟨made.source, made.capture, made.silenced, made.stands, made.lowered⟩

end Sys2Proof.Machine
end

section
/-! What the coming and the end of the damp mute make of the strings and the queue (R85, R86, R89, R144), with the
statements of RELEASE-DAMP (R90) and of the changes of the debounced level (R88). -/

namespace Sys2Proof.Machine

/-! ## The notice -/

/-- What an offered CONDITION or NOTICE leaves of the queue, where it is no report of BACKLOG (R131, R136). -/
theorem offerPlain_account {r : Record} (plain : r.isBacklog = false) (s : State) :
    (offerPlain r s).keptRecords = s.keptRecords ++ (if s.hasRoom 1 = true then [r] else [])
      ∧ (offerPlain r s).queue.reserved = s.queue.reserved
      ∧ (offerPlain r s).queue.gateOpen = s.queue.gateOpen
      ∧ (s.hasRoom 1 = false → (offerPlain r s).queue.dropped = true)
      ∧ (BacklogLaw s → BacklogLaw (offerPlain r s)) := by
  obtain ⟨admits, refuses⟩ := offerPlain_offered r s
  cases room : s.hasRoom 1
  · rw [refuses room]
    exact ⟨(List.append_nil _).symm, rfl, rfl, fun _ => rfl, id⟩
  · obtain ⟨⟨joined, -⟩, reserved⟩ := admits room
    refine ⟨joined.kept (by simp [plain]), reserved, joined.2, nofun, fun _ => ?_⟩
    unfold offerPlain
    rw [if_pos room]
    exact (updateBacklog_account _).2.2.2

/-! ## The damp mute comes (R85, R89) -/

section
variable {n : Str} {s : State}

theorem addCause_backlog (cause : MuteCause) (n : Str) (law : BacklogLaw s) : BacklogLaw (addCause cause n s) := by
  unfold addCause
  dsimp only
  split
  · exact law
  · split
    · exact offerNoteOff_backlog n cause.reason law
    · exact law

theorem addDamp_notesEnded (lawful : (s.channel n).voice.Lawful) :
    NotesEnded .damped [n] s (addCause .damp n s) := by
  have added := addCause_added lawful .damp
  refine ⟨?_, ?_, added.gateOpen, added.dropped, addCause_backlog .damp n⟩
  · rw [State.offRecords_single]; exact added.kept
  · rw [State.slotsOf_single]; exact added.reserved

/-- DAMP added to the voice of an enabled string; a disabled one has none to mute. -/
theorem enabledDamp_notesEnded (lawful : (s.channel n).Lawful) :
    NotesEnded .damped [n] s (if (s.channel n).active.enabled then addCause .damp n s else s) := by
  split
  · exact addDamp_notesEnded lawful.voice
  · next disabled =>
    have quiet := (lawful.disabled (Bool.eq_false_of_not_eq_true disabled)).voice.1
    obtain ⟨unreported, unfixed⟩ := lawful.voice.unreported (by simp [quiet])
    exact .of_unreported unreported unfixed rfl rfl rfl

/-- The damp mute comes to a sound part (R85, R89). -/
theorem dampComes_came (lawful : ChannelLaw s) (law : BacklogLaw s) : DampCame s (dampComes s) := by
  obtain ⟨kept, reserved, gateOpen, refused, backlog⟩ := offerPlain_account (r := .notice .dampOn) rfl s
  set noticed := { offerPlain (.notice .dampOn) s with
    mute := { (offerPlain (.notice .dampOn) s).mute with inForce := true } } with noticed_def
  have channel (n : Str) : noticed.channel n = s.channel n := offerPlain_channel (.notice .dampOn) s n
  have op := enabled_onlyString (addCause_onlyString .damp)
  have ended := forStrings_notesEnded (l := Str.all) (s := noticed) op
    (fun n t lawful => enabledDamp_notesEnded lawful) Str.all_nodup fun n _ => channel n ▸ lawful n
  have records : noticed.offRecords .damped Str.all = s.offRecords .damped Str.all := by
    simp only [State.offRecords, channel]
  have slots : noticed.slotsOf Str.all = s.slotsHeld := by
    rw [← State.slotsOf_all]
    simp only [State.slotsOf, channel]
  refine ⟨fun n => ?_, ?_, ?_, ended.gateOpen.trans gateOpen, ended.backlog (backlog law),
    fun full => ended.dropped (refused full)⟩
  · obtain ⟨u, -, same, taken⟩ := forStrings_string op Str.all_nodup n.mem_all noticed
    have same : u.channel n = s.channel n := same.trans (channel n)
    change (_ → (dampComes s).channel n = _) ∧ _
    have taken : (dampComes s).channel n = _ := taken
    rw [taken, same]
    refine ⟨fun disabled => ?_, fun enabled => ?_⟩
    · rw [if_neg (by simp [disabled])]
      exact same
    · rw [if_pos enabled]
      obtain ⟨voice, line, source, capture, -, -, -, -⟩ :=
        addCause_added (n := n) (s := u) (same ▸ (lawful n).voice) .damp
      rw [same] at voice line source capture
      exact ⟨source, capture, voice.trans rfl, fun sounding => by rw [line, if_pos sounding]; exact ⟨rfl, rfl⟩,
        fun other => by rw [line, if_neg other]⟩
  · exact ended.kept.trans (by rw [records]; exact congrArg (· ++ _) kept)
  · rw [← slots]
    exact ended.reserved.trans (congrArg (· - _) reserved)

end

/-! ## The damp mute ends (R86, R144) -/

/-- The string with DAMP taken from its causes. -/
def Channel.undamped (c : Channel) : Channel := { c with voice := { c.voice with damp := false } }

/-- A MUTED voice whose DAMP cause was the last holds nothing in the state it enters. -/
theorem Channel.Lawful.undamped_entering {c : Channel} (lawful : c.Lawful) (damp : c.voice.damp = true)
    (noOpen : c.voice.openCause = false) (st : VoiceState) : c.undamped.entering st
      = { c with voice := bareVoice st c.voice, bleed := .absent, reporter := .absent } := by
  have muted : c.voice.state = .muted := lawful.voice.muted.mp (by simp [Voice.hasCause, damp])
  obtain ⟨unreported, unfixed⟩ := lawful.voice.unreported (by simp [muted])
  simp [undamped, entering, Voice.entering, bareVoice, Voice.reset, unreported, unfixed, noOpen]

section
variable {n : Str} {s : State}

/-- DAMP taken from a voice that has it: another cause stands, or the voice leaves MUTED by its gate (R86). -/
theorem removeDamp_channel (damp : (s.channel n).voice.damp = true) :
    (removeCause .damp n s).channel n
      = if (s.channel n).voice.openCause = true then (s.channel n).undamped
        else if (s.channel n).detector.gate = .closed then (s.channel n).undamped.toQuiet s.mute.inForce
        else (s.channel n).undamped.entering .silent := by
  have gone : (s.mod n (.modVoice (.setCause .damp false))).channel n = (s.channel n).undamped :=
    State.channel_mod_self ..
  have causes : (s.channel n).undamped.voice.hasCause = (s.channel n).voice.openCause := Bool.false_or _
  unfold removeCause
  rw [if_pos (show (s.channel n).voice.has .damp = true from damp)]
  dsimp only
  rw [gone, causes]
  split
  · exact gone
  · change State.channel (if (s.channel n).detector.gate = .closed then _ else _) n = _
    split
    · rw [enterQuiet_channel, gone]; rfl
    · rw [State.channel_mod_self, gone]

/-- The end of the damp mute does not touch the queue until its notice. -/
theorem enabledUndamp_queue (s : State) : (forEnabled (removeCause .damp) s).queue = s.queue
    ∧ (forEnabled (removeCause .damp) s).backlog = s.backlog := by
  refine forStrings_induct (P := fun t => t.queue = s.queue ∧ t.backlog = s.backlog) _
    (fun n t ⟨queue, backlog⟩ => ?_) Str.all s ⟨rfl, rfl⟩
  split
  · obtain ⟨stands, still, -⟩ := removeCause_markers .damp n t
    exact ⟨stands.trans queue, still.trans backlog⟩
  · exact ⟨queue, backlog⟩

theorem dampEnds_offered (s : State) : Offered (.notice .dampOff) s (dampEnds s) := by
  obtain ⟨queue, backlog⟩ := enabledUndamp_queue { s with mute := { s.mute with inForce := false } }
  exact offered_congr_left (offerPlain_is_offered ..) queue backlog

/-- The damp mute leaves a sound part whose enabled voices have its cause (R86, R89, R144). -/
theorem dampEnds_removed (lawful : ChannelLaw s)
    (cause : ∀ n, (s.channel n).active.enabled = true → (s.channel n).voice.damp = true) :
    DampRemoved s (dampEnds s) := by
  intro n
  obtain ⟨u, outside, same, taken⟩ := forStrings_string (enabled_onlyString (removeCause_onlyString .damp))
    Str.all_nodup n.mem_all { s with mute := { s.mute with inForce := false } }
  have same : u.channel n = s.channel n := same
  have ended : u.mute.inForce = false := congrArg Mute.inForce outside.mute
  have taken : (dampEnds s).channel n = _ := (offerPlain_channel ..).trans taken
  dsimp only
  rw [taken, same]
  refine ⟨fun disabled => by rw [if_neg (by simp [disabled])]; exact same, fun enabled => ?_⟩
  have damp := cause n enabled
  have gone := (lawful n).undamped_entering damp
  rw [if_pos enabled, removeDamp_channel (same ▸ damp), same, ended]
  refine ⟨fun remains => if_pos remains, fun noOpen opened => ?_, fun noOpen closed kept => ?_,
    fun noOpen closed pending => ?_⟩ <;> rw [if_neg (by simp [noOpen])]
  · rw [if_neg opened]
    exact gone noOpen .silent
  · rw [if_pos closed, Channel.toQuiet_kept (c := (s.channel n).undamped) kept]
    exact gone noOpen .quiet
  · obtain ⟨active, cleared⟩ := (s.channel n).undamped.toQuiet_profile false
    rw [if_pos closed]
    refine ⟨?_, active.trans (if_pos pending), cleared, Channel.toQuiet_voice
      (c := (s.channel n).undamped) enabled (congrArg Channel.voice (gone noOpen .quiet)) false⟩
    exact (Channel.toQuiet_commits (c := (s.channel n).undamped) pending false).trans
      (congrArg _ (gone noOpen .quiet))

/-- While the damp mute is in force every enabled voice has DAMP (R89). -/
theorem DampLaw.damped (law : DampLaw s) (inForce : s.mute.inForce = true) (n : Str)
    (enabled : (s.channel n).active.enabled = true) : (s.channel n).voice.damp = true := by
  rw [law.cause, inForce, enabled]; rfl

end

/-! ## The mute brought to a wanted state (R88) -/

section
variable {s : State}

theorem setDampMute_stands {wanted : Bool} (same : wanted = s.mute.inForce) : setDampMute wanted s = s :=
  if_pos same

theorem setDampMute_comes (absent : s.mute.inForce = false) : setDampMute true s = dampComes s := by
  simp [setDampMute, absent]

theorem setDampMute_ends (inForce : s.mute.inForce = true) : setDampMute false s = dampEnds s := by
  simp [setDampMute, inForce]

/-- The modes under which an asserted level brings the mute into force (the table of R89). -/
theorem DampMode.follow_or_latch {mode : DampMode} (driven : mode ≠ .off) :
    (mode == .follow || mode == .latch) = true := by
  cases mode
  · exact absurd rfl driven
  · rfl
  · rfl

/-- The state with a change of the debounced level taken. -/
def State.levelTaken (level latch : Bool) (s : State) : State :=
  { s with mute := { s.mute with debounced := level, changeDue := false, latch := latch } }

/-- An assertion taken: under every damp mode the latch and the mute go to what its table wants (R88, R89). -/
theorem dampAsserted_due (law : DampLaw s) (due : s.mute.changeDue = true) (low : s.mute.debounced = false) :
    dampAsserted s = setDampMute (s.globals.dampMode == .follow || s.globals.dampMode == .latch)
      (s.levelTaken true (s.mute.latch || s.globals.dampMode == .latch)) := by
  cases mode : s.globals.dampMode
  · rw [setDampMute_stands (wanted := DampMode.off == .follow || DampMode.off == .latch)
      (s := s.levelTaken ..) (law.off mode).1.symm]
    simp [dampAsserted, due, low, mode, State.levelTaken, beq_eq_decide]
  · simp [dampAsserted, due, low, mode, State.levelTaken, beq_eq_decide]
  · simp [dampAsserted, due, low, mode, State.levelTaken, setLatch]

/-- A deassertion taken: the mute stays in force under LATCH alone (R88, R89). -/
theorem dampDeasserted_due (law : DampLaw s) (due : s.mute.changeDue = true) (high : s.mute.debounced = true) :
    dampDeasserted s = setDampMute (s.mute.inForce && s.globals.dampMode == .latch)
      (s.levelTaken false s.mute.latch) := by
  cases mode : s.globals.dampMode
  · rw [setDampMute_stands]
    · simp [dampDeasserted, due, high, mode, State.levelTaken]
    · simp [State.levelTaken, (law.off mode).1]
  · simp [dampDeasserted, due, high, mode, State.levelTaken, beq_eq_decide]
  · rw [setDampMute_stands (by simp [State.levelTaken])]
    simp [dampDeasserted, due, high, mode, State.levelTaken]

end

/-! ## The statements -/

/-- Settles O21, by the table of R89. -/
theorem dampLevelChanges : Obligations.DampLevelChanges := by
  intro s released i
  have asserts : exec .dampAssertion s = .next (dampAsserted s) :=
    congrArg Host.Outcome.next (State.live_of_released released _)
  have deasserts : exec .dampDeassertion s = .next (dampDeasserted s) :=
    congrArg Host.Outcome.next (State.live_of_released released _)
  refine ⟨fun due low => ?_, fun due high => ?_, fun undue => ?_, fun undue => ?_⟩
  · have beyond := dampAsserted_beyond s
    refine ⟨_, asserts, ?_, beyond.globals, beyond.lock, beyond.link, (dampAsserted_made s).2, beyond.timebase,
      beyond.frameSamples, ?_⟩ <;> rw [dampAsserted_due i.damp due low]
    · exact setDampMute_mute ..
    · refine ⟨fun off => ?_, fun driven absent => ?_, fun inForce => ?_⟩
      · have unwanted : (s.globals.dampMode == .follow || s.globals.dampMode == .latch) = s.mute.inForce := by
          rw [(i.damp.off off).1, off]; rfl
        rw [setDampMute_stands (s := s.levelTaken ..) unwanted]
        exact ⟨rfl, rfl, rfl⟩
      · rw [DampMode.follow_or_latch driven, setDampMute_comes (s := s.levelTaken ..) absent]
        exact dampComes_came (s := s.levelTaken ..) i.channels i.backlog
      · have driven : s.globals.dampMode ≠ .off := fun off =>
          absurd (inForce.symm.trans (i.damp.off off).1) nofun
        rw [DampMode.follow_or_latch driven, setDampMute_stands (s := s.levelTaken ..) inForce.symm]
        exact ⟨rfl, rfl, rfl⟩
  · have beyond := dampDeasserted_beyond s
    refine ⟨_, deasserts, ?_, beyond.globals, beyond.lock, beyond.link, (dampDeasserted_made s).2, beyond.timebase,
      beyond.frameSamples, ?_⟩ <;> rw [dampDeasserted_due i.damp due high]
    · exact setDampMute_mute ..
    · refine ⟨fun follow => ?_, fun other => ?_⟩
      · have inForce : s.mute.inForce = true := (i.damp.follow follow).1.trans high
        have unwanted : (s.mute.inForce && s.globals.dampMode == .latch) = false := by simp [follow]
        rw [unwanted, setDampMute_ends (s := s.levelTaken ..) inForce]
        exact ⟨dampEnds_removed (s := s.levelTaken ..) i.channels (i.damp.damped inForce),
          dampEnds_offered (s.levelTaken ..)⟩
      · rw [setDampMute_stands]
        · exact ⟨rfl, rfl, rfl⟩
        · cases mode : s.globals.dampMode
          · exact (congrArg (· && _) (i.damp.off mode).1).trans (i.damp.off mode).1.symm
          · exact absurd mode other
          · exact Bool.and_true _
  · rw [asserts]
    rcases undue with undue | high
    · simp [dampAsserted, undue]
    · simp [dampAsserted, high]
  · rw [deasserts]
    rcases undue with undue | low
    · simp [dampDeasserted, undue]
    · simp [dampDeasserted, low]

/-- Settles O20, by the end of a latched mute. -/
theorem releaseDampEndsALatchedMute : Obligations.ReleaseDampEndsALatchedMute := by
  intro rest s started awaits
  have taken : exec .releaseDamp s = .next (releaseDampRule 0x0b [] (s.taken rest)) :=
    handled_rule awaits started (by decide) false releaseDampRule
  rw [taken]
  refine ⟨fun latch low latched i => ?_, fun latch low unlatched => ?_, fun latch high => ?_, fun other => ?_⟩
  · have inForce : s.mute.inForce = true := (i.damp.latched latch).trans latched
    set u := setLatch false (s.taken rest) with u_def
    have rule : releaseDampRule 0x0b [] (s.taken rest) = reply 0x0b .taken [] (setDampMute false u) := by
      simp [releaseDampRule, State.taken, latch, low, latched, u_def]
    have beyond := setDampMute_beyond false u
    have modes := (setDampMute_made false u).2
    have mute := setDampMute_mute false u
    have ends : setDampMute false u = dampEnds u := setDampMute_ends inForce
    have removed : DampRemoved s (setDampMute false u) :=
      ends ▸ dampEnds_removed (s := u) i.channels (i.damp.damped inForce)
    have offered : Offered (.notice .dampOff) s (setDampMute false u) := ends ▸ dampEnds_offered u
    exact ⟨_, congrArg _ rule, ⟨_, rfl, rfl, rfl⟩, mute, removed, offered, beyond.globals, beyond.lock, modes,
      beyond.timebase⟩
  · simp [releaseDampRule, State.taken, latch, low, unlatched]
  · simp [releaseDampRule, State.taken, latch, high]
  · simp [releaseDampRule, State.taken, other]

end Sys2Proof.Machine
end

section
/-! The bleed test (R99, R100). -/

namespace Sys2Proof.Machine

/-- The voices in whose states a source counts (R99). -/
theorem Voice.counts_iff (v : Voice) : v.counts = true ↔ v.state = .acquiring ∨ v.state = .sounding := by
  simp [Voice.counts]

/-- The comparison made for one entry holds of itself where the source does not count (R99, R100). -/
theorem not_counts_or_le_iff (v : Voice) (scaled own : Nat) :
    (!v.counts || decide (scaled ≤ own)) = true ↔
      (v.state = .acquiring ∨ v.state = .sounding → scaled ≤ own) := by
  rw [← Voice.counts_iff]
  cases v.counts <;> simp

/-- Settles O47, entry by entry. -/
theorem bleedTestCompares : Obligations.BleedTestCompares := by
  intro n s
  unfold bleedPasses
  rw [List.all_eq_true]
  exact forall₂_congr fun _ _ => not_counts_or_le_iff ..

end Sys2Proof.Machine
end

section
/-! The reporter's event at a boundary (R110, R112, R113, R115) and the retrigger drop that runs out (R121). -/

namespace Sys2Proof.Machine

section
variable {n : Str} {s : State}

/-! ## A report at the output offset (R112, R113) -/

/-- The voices that are reportable (R113). -/
theorem Channel.reportable_eq_decide (c : Channel) :
    c.reportable = decide (c.voice.state = .sounding ∧ c.voice.reported = true ∧ c.voice.lost = false
      ∧ c.voice.startKind ≠ some .unpitched) := by
  rw [Bool.eq_iff_iff, decide_eq_true_iff]
  simp [reportable, and_assoc]

theorem considerOutput_of_absent
    (absent : (s.channel n).reporter.output = none ∨ (s.channel n).voice.baseNote = none) :
    considerOutput n s = s := by
  have offset : (s.channel n).outputOffset = none := by
    rcases absent with output | note
    · simp [Channel.outputOffset, output]
    · simp [Channel.outputOffset, note]
  simp only [considerOutput, offset]

/-- A report at the output offset leaves the string but for its last reported offset. -/
theorem considerOutput_channel (n : Str) (s : State) :
    ∃ last, (considerOutput n s).channel n = (s.channel n).told last := by
  unfold considerOutput
  split
  · exact considerReport_channel ..
  · exact ⟨(s.channel n).reporter.lastReported, rfl⟩

/-! ## The reporter's event at a boundary (R110, R115) -/

/-- The string with the slew step of its boundary taken, and the boundary with it (R110, R115). -/
def Channel.boundaryStepped (c : Channel) : Channel :=
  { c with reporter := { c.reporter with output := c.steppedOutput, boundaryDue := false } }

theorem takeBoundary_of_due (due : (s.channel n).reporter.boundaryDue = true) :
    takeBoundary n s = considerOutput n (s.mod n Channel.boundaryStepped) :=
  if_pos due

theorem takeBoundary_of_not_due (notDue : (s.channel n).reporter.boundaryDue = false) : takeBoundary n s = s :=
  if_neg (Bool.eq_false_iff.mp notDue)

theorem takeBoundary_channel (due : (s.channel n).reporter.boundaryDue = true) :
    ∃ last, (takeBoundary n s).channel n = (s.channel n).boundaryStepped.told last := by
  rw [takeBoundary_of_due due]
  simpa only [State.channel_mod_self] using considerOutput_channel n (s.mod n Channel.boundaryStepped)

/-- The report of a boundary is considered at the offset of the output pitch that the slew step leaves (R112, R113). -/
theorem takeBoundary_considered {out base : Nat} (due : (s.channel n).reporter.boundaryDue = true)
    (output : (s.channel n).steppedOutput = some out) (note : (s.channel n).voice.baseNote = some base) :
    ReportConsidered n (s.channel n).reportable (clampedOffset (s.channel n) out base) s (takeBoundary n s) := by
  have channel : (s.mod n Channel.boundaryStepped).channel n = (s.channel n).boundaryStepped :=
    State.channel_mod_self ..
  have report := considerReport_considered n (clampedOffset (s.channel n) out base)
    (s.mod n Channel.boundaryStepped)
  rw [takeBoundary_of_due due, considerOutput_of_pitched (out := out) (base := base)
    (by rw [channel]; exact output) (by rw [channel]; exact note)]
  rw [channel] at report ⊢
  exact reportConsidered_congr_left report rfl rfl (by rw [channel]; rfl) (by rw [channel]; rfl)
    (by rw [channel]; rfl)

/-- With no output pitch, or no base note, the boundary takes its slew step alone. -/
theorem takeBoundary_of_absent (due : (s.channel n).reporter.boundaryDue = true)
    (absent : (s.channel n).steppedOutput = none ∨ (s.channel n).voice.baseNote = none) :
    takeBoundary n s = s.mod n Channel.boundaryStepped := by
  rw [takeBoundary_of_due due]
  exact considerOutput_of_absent (by rw [State.channel_mod_self]; exact absent)

theorem exec_glideBoundary (h : s.modes.resetPinLow = false) (n : Str) :
    exec (.glideBoundary n) s = .next (takeBoundary n s) :=
  congrArg Host.Outcome.next (State.live_of_released h _)

/-! ## The retrigger drop (R121) -/

theorem expireDrop_of_due (due : (s.channel n).gateLine.checkDue = true) :
    expireDrop n s = s.mod n fun c => { c with gateLine := c.compareDrop } :=
  if_pos due

theorem expireDrop_of_not_due (notDue : (s.channel n).gateLine.checkDue = false) : expireDrop n s = s :=
  if_neg (Bool.eq_false_iff.mp notDue)

theorem exec_retriggerDropExpiry (h : s.modes.resetPinLow = false) (n : Str) :
    exec (.retriggerDropExpiry n) s = .next (expireDrop n s) :=
  congrArg Host.Outcome.next (State.live_of_released h _)

end

/-- Settles O50, by the slew step that the boundary takes and the report considered behind it. -/
theorem boundaryConsidersAReport : Obligations.BoundaryConsidersAReport := by
  intro n s released
  dsimp only
  rw [exec_glideBoundary released]
  refine ⟨fun due => ?_, fun notDue => congrArg _ (takeBoundary_of_not_due notDue)⟩
  obtain ⟨last, channel⟩ := takeBoundary_channel due
  have output : ((takeBoundary n s).channel n).reporter.output = (s.channel n).steppedOutput := by
    rw [channel]; rfl
  refine ⟨_, rfl, takeBoundary_onlyString n s, ?_, ?_, fun out base pitch note => ?_, fun absent => ?_⟩
  · rw [channel]; rfl
  · rw [output]; exact Channel.steppedOutput_stepped _
  · rw [← Channel.reportable_eq_decide]
    exact takeBoundary_considered due (output.symm.trans pitch) note
  · rw [output] at absent
    rw [takeBoundary_of_absent due absent, State.channel_mod_self]
    exact ⟨rfl, rfl, rfl⟩

/-- Settles O51, by the comparison of the drop with the retrigger drop in force. -/
theorem dropRunsOut : Obligations.DropRunsOut := by
  intro n s released
  dsimp only
  rw [exec_retriggerDropExpiry released]
  refine ⟨fun due => ?_, fun notDue => congrArg _ (expireDrop_of_not_due notDue)⟩
  rw [expireDrop_of_due due]
  refine ⟨fun k drop reached => congrArg _ (State.mod_congr ?_), fun running => congrArg _ (State.mod_congr ?_)⟩
  · simp only [Channel.compareDrop_out drop reached]
  · rcases running with none | ⟨k, drop, below⟩
    · simp only [Channel.compareDrop_absent none]
    · simp only [Channel.compareDrop_on drop below]

end Sys2Proof.Machine
end

section
/-! The replies of EVENTS, LOCK and RESTART (R134, R150, R175). -/

namespace Sys2Proof.Machine

theorem eventsRule_close (kind : Byte) (s : State) :
    eventsRule kind [0] s = reply kind .taken [] { s with queue := { s.queue with gateOpen := false } } := rfl

theorem eventsRule_open (kind : Byte) (s : State) :
    eventsRule kind [1] s = reply kind .taken [] { s with queue := { s.queue with gateOpen := true } } := rfl

theorem eventsRule_badValue {value : Byte} (notClose : value ≠ 0) (notOpen : value ≠ 1) (kind : Byte) (s : State) :
    eventsRule kind [value] s = reply kind (.badField 0) [] s := by
  -- the match on the value is read by these two
  have notZero : value.toNat ≠ 0 := fun zero => notClose (BitVec.eq_of_toNat_eq zero)
  have notOne : value.toNat ≠ 1 := fun one => notOpen (BitVec.eq_of_toNat_eq one)
  simp [eventsRule, field]

theorem restartRule_of_locked (s : State) (locked : s.lock = true) (kind : Byte) (payload : List Byte) :
    restartRule kind payload s = reply kind .locked [] s :=
  if_pos locked

theorem restartRule_of_unlocked (s : State) (unlocked : s.lock = false) (kind : Byte) (payload : List Byte) :
    restartRule kind payload s
      = { reply kind .taken [] s with modes := { s.modes with restart := .due } } :=
  if_neg (Bool.eq_false_iff.mp unlocked)

/-- Settles O18, by the rule of each command on the state with the frame taken. -/
theorem eventsLockAndRestart : Obligations.EventsLockAndRestart := by
  intro value rest s started
  refine ⟨fun awaits => ?events, fun awaits => handled_rule awaits started (by decide) false lockRule,
    fun awaits => ?restart⟩
  case events =>
    have taken : exec .events s = .next (eventsRule 0x09 [value] (s.taken rest)) :=
      handled_rule awaits started (by simp) false eventsRule
    rw [taken]
    refine ⟨?_, ?_, fun notClose notOpen => congrArg _ (eventsRule_badValue notClose notOpen _ _)⟩
    · rintro rfl
      exact congrArg _ (eventsRule_close _ _)
    · rintro rfl
      exact congrArg _ (eventsRule_open _ _)
  case restart =>
    have taken : exec .restart s = .next (restartRule 0x0f [] (s.taken rest)) :=
      handled_rule awaits started (by decide) false restartRule
    rw [taken]
    exact ⟨fun locked => congrArg _ (restartRule_of_locked (s.taken rest) locked _ _),
      fun unlocked => congrArg _ (restartRule_of_unlocked (s.taken rest) unlocked _ _)⟩

end Sys2Proof.Machine
end

section
/-! What CLEAR-CONDITIONS makes of the markers and what it replies (R156, R168), with its statement and that of the
laws of the markers and of the queued GLIDEs. -/

namespace Sys2Proof.Machine

/-- Settles O59: every event keeps the law of the markers and that of the queued GLIDEs. -/
theorem markersAndGlidesStayLawful : Obligations.MarkersAndGlidesStayLawful := fun _ _ taken =>
  have kept := marksKept_kept.step taken
  ⟨kept.conditions, kept.glides⟩

/-! ## The strings a command names (R156) -/

theorem Str.ofNumber_eq_some_iff {k : Nat} {n : Str} : Str.ofNumber k = some n ↔ k = n.number := by
  constructor
  · unfold Str.ofNumber
    split <;> rintro ⟨⟩ <;> rfl
  · rintro rfl
    cases n <;> rfl

theorem stringsOf_of_unnamed {names : List Byte} (unnamed : ∃ b ∈ names, Str.ofNumber b.toNat = none) :
    stringsOf names = none := by
  induction names with
  | nil => simp at unnamed
  | cons b rest ih =>
    obtain ⟨a, member, unnamed⟩ := unnamed
    rcases List.mem_cons.mp member with rfl | later
    · simp [stringsOf, unnamed]
    · simp [stringsOf, ih ⟨a, later, unnamed⟩]

/-- The strings that the bytes name are those whose numbers are among them. -/
theorem stringsOf_of_named {names : List Byte} (named : ∀ b ∈ names, (Str.ofNumber b.toNat).isSome = true) :
    ∃ strings, stringsOf names = some strings
      ∧ ∀ n, decide (n ∈ strings) = names.any fun b => b.toNat == n.number := by
  induction names with
  | nil => exact ⟨[], rfl, fun _ => rfl⟩
  | cons b rest ih =>
    obtain ⟨first, later⟩ := List.forall_mem_cons.mp named
    obtain ⟨m, called⟩ := Option.isSome_iff_exists.mp first
    obtain ⟨strings, read, same⟩ := ih later
    refine ⟨m :: strings, by simp [stringsOf, called, read], fun n => ?_⟩
    have own : decide (n = m) = (b.toNat == n.number) := by
      rw [Bool.eq_iff_iff, decide_eq_true_iff, beq_iff_eq, ← Str.ofNumber_eq_some_iff, called,
        Option.some_inj, eq_comm]
    simp only [List.any_cons, ← same n, ← own, List.mem_cons, Bool.decide_or]

/-! ## Latched markers cleared (R156) -/

/-- A pair of markers after a CLEAR-CONDITIONS that names it or does not. -/
def Markers.clearedIf (named : Bool) (m : Markers) : Markers :=
  { m with latched := m.latched && (m.active || !named) }

theorem Markers.clearedIf_eq_ite (named : Bool) (m : Markers) :
    m.clearedIf named = if named then m.cleared else m := by
  obtain ⟨active, latched, endMark⟩ := m
  cases named <;> cases active <;> simp [clearedIf, cleared]

@[simp] theorem Markers.clearedIf_false (m : Markers) : m.clearedIf false = m :=
  m.clearedIf_eq_ite false

@[simp] theorem Markers.clearedIf_clearedIf (a b : Bool) (m : Markers) :
    (m.clearedIf a).clearedIf b = m.clearedIf (a || b) := by
  simp only [clearedIf, Bool.not_or, Bool.or_and_distrib_left, Bool.and_assoc]

/-- A string after a CLEAR-CONDITIONS of these kinds that names it or does not. -/
def Channel.clearedIf (kinds : KindSet) (named : Bool) (c : Channel) : Channel :=
  { c with clip := c.clip.clearedIf (kinds.clip && named),
           openMarks := c.openMarks.clearedIf (kinds.openKind && named) }

theorem Channel.clearNamed_eq (kinds : KindSet) (c : Channel) : c.clearNamed kinds = c.clearedIf kinds true := by
  simp only [clearNamed, clearedIf, Bool.and_true, Markers.clearedIf_eq_ite]

theorem Channel.clearedIf_false (kinds : KindSet) (c : Channel) : c.clearedIf kinds false = c := by
  simp [clearedIf]

/-- A string named twice is cleared as one named once. -/
theorem Channel.clearedIf_clearedIf (kinds : KindSet) (a b : Bool) (c : Channel) :
    (c.clearedIf kinds a).clearedIf kinds b = c.clearedIf kinds (a || b) := by
  simp [clearedIf, Bool.and_or_distrib_left]

theorem forStrings_clearNamed_channel (kinds : KindSet) (strings : List Str) (s : State) (n : Str) :
    (forStrings (fun n u => u.mod n (.clearNamed kinds)) strings s).channel n
      = (s.channel n).clearedIf kinds (decide (n ∈ strings)) := by
  induction strings generalizing s with
  | nil => exact (Channel.clearedIf_false kinds _).symm
  | cons m rest ih =>
    have first : (s.mod m (.clearNamed kinds)).channel n = (s.channel n).clearedIf kinds (decide (n = m)) := by
      rw [State.channel_mod]
      split
      · next own => simp [own, Channel.clearNamed_eq]
      · next other => simp [other, Channel.clearedIf_false]
    simp only [forStrings, ih, first, Channel.clearedIf_clearedIf, List.mem_cons, Bool.decide_or]

/-- The strings' markers and BACKLOG's are all that a CLEAR-CONDITIONS changes. -/
theorem clearMarkers_eq (kinds : KindSet) (strings : List Str) (s : State) :
    clearMarkers kinds strings s
      = { s with
          channels := .of fun n => (s.channel n).clearedIf kinds (decide (n ∈ strings)),
          backlog := s.backlog.clearedIf kinds.backlog } := by
  have rest := forStrings_induct (P := fun u => u = { s with channels := u.channels })
    (fun n u => u.mod n (.clearNamed kinds)) (fun n u same => by rw [same]; rfl) strings s rfl
  have channels : (forStrings (fun n u => u.mod n (.clearNamed kinds)) strings s).channels
      = .of fun n => (s.channel n).clearedIf kinds (decide (n ∈ strings)) :=
    Eight.ext_get fun n => by
      rw [State.get_channels, forStrings_clearNamed_channel, Eight.get_of]
  rw [channels] at rest
  simp only [clearMarkers, rest, Markers.clearedIf_eq_ite]

/-! ## The markers that are left, as a reply lists them (R168) -/

/-- The bit for string `n` is bit n − 1. -/
theorem byteOfBits_getLsbD (b1 b2 b3 b4 b5 b6 b7 b8 : Bool) (n : Str) :
    (byteOfBits b1 b2 b3 b4 b5 b6 b7 b8).getLsbD (n.number - 1) = (Eight.mk b1 b2 b3 b4 b5 b6 b7 b8).get n := by
  have binary : byteOfBits b1 b2 b3 b4 b5 b6 b7 b8 = BitVec.ofNat 8
      (.bit b1 (.bit b2 (.bit b3 (.bit b4 (.bit b5 (.bit b6 (.bit b7 (.bit b8 0)))))))) := by
    unfold byteOfBits
    congr 1
    simp only [Nat.bit_val]
    omega
  rw [binary, BitVec.getLsbD_ofNat]
  cases n <;> simp [Str.number, Eight.get, Nat.testBit_bit_succ]

theorem latchedByte_getLsbD (k : StringKind) (s : State) (n : Str) :
    (latchedByte k s).getLsbD (n.number - 1) = ((s.channel n).markers k).latched := by
  unfold latchedByte
  rw [byteOfBits_getLsbD]
  cases n <;> rfl

/-! ## CLEAR-CONDITIONS -/

section
variable {kinds : Byte} {names : List Byte}

theorem clearConditionsRule_badKinds (unknown : 7 < kinds.toNat) (kind : Byte) (s : State) :
    clearConditionsRule kind (kinds :: names) s = reply kind (.badField 0) [] s :=
  if_pos unknown

theorem clearConditionsRule_badString (known : kinds.toNat ≤ 7) (unnamed : stringsOf names = none) (kind : Byte)
    (s : State) : clearConditionsRule kind (kinds :: names) s = reply kind .badString [] s := by
  refine (if_neg (Nat.not_lt.mpr known)).trans ?_
  rw [List.tail_cons, unnamed]

theorem clearConditionsRule_taken (known : kinds.toNat ≤ 7) {strings : List Str}
    (named : stringsOf names = some strings) (kind : Byte) (s : State) :
    clearConditionsRule kind (kinds :: names) s
      = reply kind .taken (latchedData (clearMarkers (kindSetOf kinds.toNat) strings s))
          (clearMarkers (kindSetOf kinds.toNat) strings s) := by
  refine (if_neg (Nat.not_lt.mpr known)).trans ?_
  rw [List.tail_cons, named]
  rfl

end

/-- Settles O17, by the strings that the bytes name and what the clearing leaves of each marker. -/
theorem clearConditionsClears : Obligations.ClearConditionsClears := by
  intro kinds names rest s started short awaits
  have length : (kinds :: names).length + 1 ∈ [2, 3, 4, 5, 6, 7, 8, 9, 10] := by
    rw [List.length_cons]
    interval_cases names.length <;> decide
  have taken : exec .clearConditions s = .next (clearConditionsRule 0x08 (kinds :: names) (s.taken rest)) :=
    handled_rule awaits started length false clearConditionsRule
  rw [taken]
  refine ⟨fun unknown => congrArg _ (clearConditionsRule_badKinds unknown _ _),
    fun known unnamed => congrArg _ (clearConditionsRule_badString known (stringsOf_of_unnamed unnamed) _ _),
    fun known named => ?_⟩
  obtain ⟨strings, read, same⟩ := stringsOf_of_named named
  have left := clearMarkers_eq (kindSetOf kinds.toNat) strings (s.taken rest)
  simp only [same] at left
  intro _ _ u
  refine ⟨latchedByte .clip u, latchedByte .openKind u, flagByte u.backlog.latched, ?_,
    fun n => ⟨latchedByte_getLsbD .clip u n, latchedByte_getLsbD .openKind u n⟩, rfl⟩
  rw [clearConditionsRule_taken known read, left]
  rfl

end Sys2Proof.Machine
end

section
/-! The receiver and the transmitter, event by event (R163 to R167, R175), and a whole frame received. -/

namespace Sys2Proof.Machine

/-! ## The receiver (R163 to R165) -/

section
variable {b : Byte} {s : State}

theorem exec_receivedByte (h : s.modes.resetPinLow = false) (b : Byte) (stopHigh : Bool) :
    exec (.receivedByte b stopHigh) s = .next (receiveByte b stopHigh s) :=
  congrArg Host.Outcome.next (State.live_of_released h _)

theorem receiveByte_lineError (b : Byte) (s : State) :
    receiveByte b false s = { s with link := s.link.fault } := rfl

/-- A byte that completes no frame reaches the receiver alone. -/
theorem receiveByte_partial (incomplete : s.link.completes b = false) :
    receiveByte b true s = { s with link := s.link.receive b } := by
  simp [receiveByte, incomplete]

/-- A byte that completes a frame sets the idle timer to 0 as well (R176). -/
theorem receiveByte_completing (completes : s.link.completes b = true) :
    receiveByte b true s
      = { s with link := s.link.receive b, modes := { s.modes with idle := 0, idleDue := false } } := by
  simp [receiveByte, completes]

theorem Link.completes_iff {l : Link} :
    l.completes b = true ↔ l.rxState = .check ∧ b = crc8 (byte l.rxLength :: l.rxBody) := by
  simp [completes, checkMatches]

/-- Outside CHECK no byte completes a frame. -/
theorem Link.not_completes {l : Link} (outside : l.rxState ≠ .check) : l.completes b = false :=
  Bool.eq_false_iff.mpr fun completes => outside (completes_iff.mp completes).1

theorem receiveByte_sync (hunt : s.link.rxState = .hunt) :
    receiveByte syncByte true s = { s with link := { s.link with rxState := .length, rxTimer := 0 } } := by
  rw [receiveByte_partial (Link.not_completes (by rw [hunt]; nofun))]
  simp [Link.receive, hunt]

theorem receiveByte_noSync (hunt : s.link.rxState = .hunt) (other : b ≠ syncByte) :
    receiveByte b true s = { s with link := s.link.fault } := by
  rw [receiveByte_partial (Link.not_completes (by rw [hunt]; nofun))]
  simp [Link.receive, hunt, other]

theorem receiveByte_length (length : s.link.rxState = .length) (low : 1 ≤ b.toNat) (high : b.toNat ≤ 48) :
    receiveByte b true s = { s with link := { s.link with
      rxState := .body, rxLength := b.toNat, rxBody := [], rxTimer := 0 } } := by
  rw [receiveByte_partial (Link.not_completes (by rw [length]; nofun))]
  simp [Link.receive, length, low, high]

theorem receiveByte_badLength (length : s.link.rxState = .length) (bad : b.toNat = 0 ∨ 48 < b.toNat) :
    receiveByte b true s = { s with link := s.link.fault } := by
  have outside : (decide (1 ≤ b.toNat) && decide (b.toNat ≤ 48)) = false := by
    rw [← Bool.decide_and, decide_eq_false_iff_not]
    omega
  rw [receiveByte_partial (Link.not_completes (by rw [length]; nofun))]
  simp only [Link.receive, length, outside, Bool.false_eq_true, if_false]

theorem receiveByte_body (body : s.link.rxState = .body) :
    receiveByte b true s = { s with link := { s.link with
      rxBody := s.link.rxBody ++ [b], rxTimer := 0,
      rxState := if s.link.rxLength ≤ s.link.rxBody.length + 1 then .check else .body } } := by
  rw [receiveByte_partial (Link.not_completes (by rw [body]; nofun))]
  simp [Link.receive, body]

theorem receiveByte_badCheck (check : s.link.rxState = .check)
    (bad : b ≠ crc8 (byte s.link.rxLength :: s.link.rxBody)) :
    receiveByte b true s = { s with link := s.link.fault } := by
  rw [receiveByte_partial (Bool.eq_false_iff.mpr fun completes => bad (Link.completes_iff.mp completes).2)]
  simp [Link.receive, Link.checkMatches, check, bad]

/-- A complete frame joins the buffer where there is room, and sets OVERRUN where not (R165). -/
theorem Link.complete_eq {l : Link} {kind : Byte} {payload : List Byte} (held : l.rxBody = kind :: payload) :
    l.complete = { l.hunt with
      buffer := if l.buffer.length < 2 then l.buffer ++ [⟨kind, payload⟩] else l.buffer,
      overrun := l.overrun || !decide (l.buffer.length < 2) } := by
  by_cases room : l.buffer.length < 2 <;> simp [complete, held, room, hunt]

theorem receiveByte_goodCheck {kind : Byte} {payload : List Byte} (check : s.link.rxState = .check)
    (held : s.link.rxBody = kind :: payload) (good : b = crc8 (byte s.link.rxLength :: s.link.rxBody)) :
    receiveByte b true s = { s with
      modes := { s.modes with idle := 0, idleDue := false },
      link := { s.link.hunt with
        buffer := if s.link.buffer.length < 2 then s.link.buffer ++ [⟨kind, payload⟩] else s.link.buffer,
        overrun := s.link.overrun || !decide (s.link.buffer.length < 2) } } := by
  have received : s.link.receive b = s.link.complete := by
    simp [Link.receive, Link.checkMatches, check, good]
  rw [receiveByte_completing (Link.completes_iff.mpr ⟨check, good⟩), received, Link.complete_eq held]

end

/-- Settles O25, by the row of the table of R163 that each state of the receiver reads. -/
theorem receiverTable : Obligations.ReceiverTable := by
  intro b s released
  dsimp only
  rw [exec_receivedByte released, exec_receivedByte released]
  refine ⟨congrArg _ (receiveByte_lineError b s), fun hunt sync => ?_,
    fun hunt other => congrArg _ (receiveByte_noSync hunt other),
    fun length low high => congrArg _ (receiveByte_length length low high),
    fun length bad => congrArg _ (receiveByte_badLength length bad),
    fun body => congrArg _ (receiveByte_body body),
    fun check bad => congrArg _ (receiveByte_badCheck check bad),
    fun kind payload check held good => congrArg _ (receiveByte_goodCheck check held good)⟩
  subst sync
  exact congrArg _ (receiveByte_sync hunt)

/-! ## The inter-byte timeout and the end of a frame (R164, R167, R175) -/

section
variable {s : State}

theorem exec_interByteTimeout (h : s.modes.resetPinLow = false) :
    exec .interByteTimeout s = .next (byteTimeout s) :=
  congrArg Host.Outcome.next (State.live_of_released h _)

theorem byteTimeout_of_due (partway : s.link.rxState ≠ .hunt) (waited : 9 ≤ s.link.rxTimer) :
    byteTimeout s = { s with link := s.link.fault } := by
  simp [byteTimeout, partway, waited]

theorem byteTimeout_of_not_due (notDue : s.link.rxState = .hunt ∨ s.link.rxTimer < 9) : byteTimeout s = s := by
  rcases notDue with hunt | early
  · simp [byteTimeout, hunt]
  · simp [byteTimeout, Nat.not_le.mpr early]

theorem exec_frameSent (h : s.modes.resetPinLow = false) : exec .frameSent s = .next (frameSent s) :=
  congrArg Host.Outcome.next (State.live_of_released h _)

theorem frameSent_of_idle (idle : s.link.tx = .idle) : frameSent s = s := by
  simp [frameSent, idle]

/-- The transmitter whose frame ends is IDLE, and a RESTART's reply marks the restart. -/
theorem frameSent_of_sending {bytes : List Byte} {restartReply : Bool}
    (sends : s.link.tx = .sending bytes restartReply) :
    frameSent s = { s with
      link := { s.link with tx := .idle },
      modes := { s.modes with restart := if restartReply then .replySent else s.modes.restart } } := by
  simp [frameSent, sends]

end

/-- Settles O26, by whether the timer has waited and what the transmitter sends. -/
theorem timeoutAndFrameEnd : Obligations.TimeoutAndFrameEnd := by
  intro s released
  rw [exec_interByteTimeout released, exec_frameSent released]
  exact ⟨fun partway waited => congrArg _ (byteTimeout_of_due partway waited),
    fun notDue => congrArg _ (byteTimeout_of_not_due notDue),
    fun _ sends => congrArg _ (frameSent_of_sending sends),
    fun _ sends => congrArg _ (frameSent_of_sending sends),
    fun idle => congrArg _ (frameSent_of_idle idle)⟩

/-! ## The transmitter (R135 to R137, R167) -/

section
variable {s : State}

theorem exec_transmitTake (h : s.modes.resetPinLow = false) : exec .transmitTake s = .next (transmitTake s) :=
  congrArg Host.Outcome.next (State.live_of_released h _)

/-- A busy transmitter takes nothing, and none does once the reply of a RESTART has ended. -/
theorem transmitTake_of_barred (barred : s.link.tx ≠ .idle ∨ s.modes.restart = .replySent) :
    transmitTake s = s := by
  rcases barred with busy | ended
  · simp [transmitTake, busy]
  · simp [transmitTake, ended]

theorem transmitTake_reply {reply : Reply} (free : s.modes.restart ≠ .replySent) (idle : s.link.tx = .idle)
    (slot : s.link.slot = some reply) :
    transmitTake s = { s with link := { s.link with
      slot := none, tx := .sending reply.bytes (s.modes.restart == .due) } } := by
  simp [transmitTake, free, idle, slot]

theorem transmitTake_record {head : Record} {rest : List Record} (free : s.modes.restart ≠ .replySent)
    (idle : s.link.tx = .idle) (slot : s.link.slot = none) (gate : s.queue.gateOpen = true)
    (records : s.queue.records = head :: rest) :
    transmitTake s = updateBacklog { s with
      queue := { s.queue with records := rest },
      link := { s.link with tx := .sending head.bytes false } } := by
  simp [transmitTake, free, idle, slot, gate, records]

/-- Without a reply, and with the gate CLOSED or the queue empty, there is no claimant. -/
theorem transmitTake_of_unclaimed (slot : s.link.slot = none)
    (unclaimed : s.queue.gateOpen = false ∨ s.queue.records = []) : transmitTake s = s := by
  unfold transmitTake
  rw [slot]
  rcases unclaimed with closed | empty
  · cases s.queue.records <;> simp [closed]
  · simp [empty]

end

/-- Settles O27, by what claims the transmitter; the record's removal is compared as every change of the
commitment is. -/
theorem transmitterTakes : Obligations.TransmitterTakes := by
  intro s released
  rw [exec_transmitTake released]
  refine ⟨fun ended => congrArg _ (transmitTake_of_barred (.inr ended)),
    fun _ free idle slot => congrArg _ (transmitTake_reply free idle slot),
    fun head rest free idle slot gate records => ?_,
    fun busy => congrArg _ (transmitTake_of_barred (.inl busy)),
    fun slot unclaimed => congrArg _ (transmitTake_of_unclaimed slot unclaimed)⟩
  rw [transmitTake_record free idle slot gate records]
  let taken : State := { s with
    queue := { s.queue with records := rest }, link := { s.link with tx := .sending head.bytes false } }
  obtain ⟨outside, channels⟩ := updateBacklog_queueOnly taken
  obtain ⟨reserved, gateKept, -, active⟩ := updateBacklog_account taken
  obtain ⟨⟨extra, joined, reports⟩, -⟩ := updateBacklog_joined taken
  rw [List.append_nil] at joined
  exact ⟨updateBacklog taken, extra, rfl, outside.link, joined, reports, reserved, gateKept.trans gate, active,
    channels, outside.globals, updateBacklog_reported taken, outside.lock, outside.mute, outside.modes,
    outside.timebase⟩

/-! ## A whole frame received (R162, R163, R165) -/

/-- The bytes of a list, each received with its stop bit high. -/
def received (bytes : List Byte) : List Instr := bytes.map fun b => .receivedByte b true

/-- The part with its receiver inside a frame of this length, these bytes of the body held. -/
def State.midFrame (rx : RxState) (length : Nat) (held : List Byte) (s : State) : State :=
  { s with link := { s.link with rxState := rx, rxLength := length, rxBody := held, rxTimer := 0 } }

theorem receiveByte_midFrame (length : Nat) (held : List Byte) (b : Byte) (s : State) :
    receiveByte b true (s.midFrame .body length held)
      = s.midFrame (if length ≤ held.length + 1 then .check else .body) length (held ++ [b]) :=
  receiveByte_body rfl

theorem runs_received_cons {b : Byte} {bytes : List Byte} {s t : State} (released : s.modes.resetPinLow = false)
    (rest : Runs (received bytes) (receiveByte b true s) t) : Runs (received (b :: bytes)) s t :=
  runs_cons (op := receiveByte b true) (fun _ => rfl) released rest

/-- The bytes of a body that the frame's length counts exactly are held in order, and CHECK is due. -/
theorem runs_received_body {s : State} (released : s.modes.resetPinLow = false) {length : Nat} (b : Byte)
    (rest held : List Byte) (counted : held.length + (rest.length + 1) = length) :
    Runs (received (b :: rest)) (s.midFrame .body length held)
      (s.midFrame .check length (held ++ b :: rest)) := by
  refine runs_received_cons released ?_
  rw [receiveByte_midFrame]
  induction rest generalizing b held with
  | nil => rw [if_pos (by simpa using counted.symm.le)]; rfl
  | cons next rest ih =>
    rw [List.length_cons] at counted
    rw [if_neg (by omega), List.append_cons held b (next :: rest)]
    refine runs_received_cons released ?_
    rw [receiveByte_midFrame]
    exact ih next (held ++ [b]) (by rw [List.length_append, List.length_singleton]; omega)

/-- SYNC and a LEN of R162 open a frame whose body is still to come. -/
theorem receiveByte_opening {s : State} (hunt : s.link.rxState = .hunt) {length : Nat} (low : 1 ≤ length)
    (high : length ≤ 48) :
    receiveByte (byte length) true (receiveByte syncByte true s) = s.midFrame .body length [] := by
  have counted : (byte length).toNat = length := by
    rw [byte, BitVec.toNat_ofNat]
    omega
  rw [receiveByte_sync hunt, receiveByte_length rfl (by omega) (by omega), counted]
  rfl

/-- CHECK of the frame held completes it, and it joins a buffer that has room. -/
theorem receiveByte_closing {s : State} (hunt : s.link.rxState = .hunt) (room : s.link.buffer.length < 2)
    (length : Nat) (kind : Byte) (payload : List Byte) :
    receiveByte (crc8 (byte length :: kind :: payload)) true (s.midFrame .check length (kind :: payload))
      = { s with
          modes := { s.modes with idle := 0, idleDue := false },
          link := { s.link with rxLength := 0, rxBody := [], rxTimer := 0,
                                buffer := s.link.buffer ++ [⟨kind, payload⟩] } } := by
  rw [receiveByte_goodCheck (s := s.midFrame .check length (kind :: payload))
    (b := crc8 (byte length :: kind :: payload)) rfl rfl rfl]
  simp [State.midFrame, Link.hunt, room, hunt]

/-- Settles O55: SYNC and LEN open the frame, an induction over the body holds it, and CHECK completes it. -/
theorem framesAreReceived : Obligations.FramesAreReceived := by
  intro kind payload s released hunt short room
  have laidOut : received (frameBytes kind payload)
      = received [syncByte, byte (payload.length + 1)] ++ (received (kind :: payload)
        ++ received [crc8 (byte (payload.length + 1) :: kind :: payload)]) := by
    simp [received, frameBytes]
  change Runs (received (frameBytes kind payload)) _ _
  rw [laidOut]
  refine runs_append (runs_received_cons released (runs_received_cons ?_ (receiveByte_opening hunt ?_ ?_).symm))
    (runs_append (runs_received_body released kind payload [] (by simp))
      (runs_received_cons released (receiveByte_closing hunt room _ kind payload).symm))
  · rw [receiveByte_sync hunt]
    exact released
  · omega
  · omega

end Sys2Proof.Machine
end

section
/-! The common checks of the handler (R166), the status summary (R170), and the replies of IDENT and STATUS. -/

namespace Sys2Proof.Machine

/-! ## The handler's steps (R166, R168) -/

/-- A command's step has the handler take the frames of its row, under the row's common checks. -/
theorem exec_of_commandRow {i : Instr} {kind : Byte} {lengths : List Nat} {inStart : Bool}
    (row : commandRow i = some (kind, lengths, inStart)) :
    ∃ mine rule, (∀ s, exec i s = .next (s.live (handle mine (command lengths inStart rule))))
      ∧ ∀ f, mine f = true ↔
        f.kind = kind ∧ (i = .doze → f.payload ≠ [1]) ∧ (i = .wake → f.payload ≠ [0]) := by
  cases i with
  | doze =>
    cases row
    exact ⟨isDozeWake 1, dozeWakeRule, fun _ => rfl, fun f => by simp [isDozeWake]⟩
  | wake =>
    cases row
    exact ⟨isDozeWake 0, dozeWakeRule, fun _ => rfl, fun f => by simp [isDozeWake]⟩
  | _ =>
    cases row <;> exact ⟨isKind _, _, fun _ => rfl, fun f => by simp [isKind]⟩

theorem isUnknown_iff {f : Frame} : isUnknown f = true ↔ ¬(1 ≤ f.kind.toNat ∧ f.kind.toNat ≤ 15) := by
  rw [← within_iff, isUnknown, Bool.not_eq_true', Bool.not_eq_true]

/-- Each step of the handler takes the frames that are its own, and no other. -/
theorem exec_of_handler {i : Instr} (handler : i = .unknownKind ∨ (commandRow i).isSome = true) :
    ∃ mine execute, (∀ s, exec i s = .next (s.live (handle mine execute)))
      ∧ ∀ f, mine f = true ↔ FrameOf i f := by
  rcases handler with rfl | known
  · exact ⟨isUnknown, refuseUnknown, fun _ => rfl, fun f => by simp [isUnknown_iff, FrameOf, commandRow]⟩
  · obtain ⟨⟨kind, lengths, inStart⟩, row⟩ := Option.isSome_iff_exists.mp known
    obtain ⟨mine, rule, takes, own⟩ := exec_of_commandRow row
    refine ⟨mine, _, takes, fun f => ?_⟩
    have command : i ≠ .unknownKind := by
      rintro rfl
      cases row
    simp [own, FrameOf, command, row, eq_comm]

/-- Settles O8, by the order of the checks that a taken frame meets, and by what keeps one from being taken. -/
theorem commonRefusals : Obligations.CommonRefusals := by
  refine ⟨fun i kind payload rest s awaits => ⟨fun unknown => ?_, fun lengths inStart row notWake notDoze => ?_⟩,
    fun i s handler barred => ?_⟩
  · exact congrArg _ (handle_of_awaits awaits (isUnknown_iff.mpr unknown) refuseUnknown)
  · obtain ⟨mine, rule, takes, own⟩ := exec_of_commandRow row
    rw [takes, handle_of_awaits awaits ((own _).mpr ⟨rfl, notWake, notDoze⟩)]
    refine ⟨fun bad => congrArg _ (command_badLength bad ..), fun good starts notInStart => ?_⟩
    subst notInStart
    exact congrArg _ (command_wrongMode (f := ⟨kind, payload⟩) good (s := s.taken rest) starts rule)
  · obtain ⟨mine, execute, takes, own⟩ := exec_of_handler handler
    rw [takes]
    rcases barred with full | restarting | empty | ⟨f, rest, oldest, foreign⟩
    · exact congrArg _ (handle_of_busy (.inl full) mine execute)
    · exact congrArg _ (handle_of_busy (.inr restarting) mine execute)
    · exact congrArg _ (handle_of_empty empty mine execute)
    · exact congrArg _ (handle_of_other oldest (Bool.eq_false_iff.mpr (mt (own f).mp foreign)) execute)

/-! ## The status summary (R170) -/

/-- The number a byte's bits spell. -/
theorem byteOfBits_toNat (b0 b1 b2 b3 b4 b5 b6 b7 : Bool) :
    (byteOfBits b0 b1 b2 b3 b4 b5 b6 b7).toNat = b0.toNat + 2 * b1.toNat + 4 * b2.toNat + 8 * b3.toNat
      + 16 * b4.toNat + 32 * b5.toNat + 64 * b6.toNat + 128 * b7.toNat := by
  have := b0.toNat_le; have := b1.toNat_le; have := b2.toNat_le; have := b3.toNat_le
  have := b4.toNat_le; have := b5.toNat_le; have := b6.toNat_le; have := b7.toNat_le
  rw [byteOfBits, BitVec.toNat_ofNat]
  omega

/-- Bits 0 and 1 of the summary are RUN and DOZE. -/
theorem State.summary0_mode (s : State) :
    s.summary0.toNat % 4 = (s.modes.mode == .run).toNat + 2 * (s.modes.mode == .doze).toNat := by
  have := (s.modes.mode == .run).toNat_le
  have := (s.modes.mode == .doze).toNat_le
  rw [summary0, byteOfBits_toNat]
  omega

theorem State.anyLatched_iff (s : State) : s.anyLatched = true ↔ s.backlog.latched = true
    ∨ ∃ n, (s.channel n).clip.latched = true ∨ (s.channel n).openMarks.latched = true := by
  simp [anyLatched, anyString, Str.mem_all]

theorem State.summary1_eq (s : State) : s.summary1 = flagByte s.anyLatched := by
  rw [summary1]
  cases s.anyLatched <;> rfl

theorem flagByte_eq_one_iff {b : Bool} : flagByte b = 1 ↔ b = true := by
  cases b <;> decide

/-- Settles O9, by the place of each bit in the summary's two bytes. -/
theorem replyCarriesTheSummary : Obligations.ReplyCarriesTheSummary := by
  intro kind outcome data s
  have bit (n : Str) := byteOfBits_getLsbD (s.modes.mode == .run) (s.modes.mode == .doze) s.lock s.queue.gateOpen
    s.mute.inForce s.queue.dropped s.link.overrun s.link.frameErr n
  refine ⟨rfl, ?_, bit .s3, bit .s4, bit .s5, bit .s6, bit .s7, bit .s8, ?_, ?_⟩
  · rw [s.summary0_mode]
    cases s.modes.mode <;> rfl
  · rw [s.summary1_eq, flagByte_eq_one_iff, s.anyLatched_iff]
  · rw [s.summary1_eq]
    cases s.anyLatched
    · exact .inl rfl
    · exact .inr rfl

/-! ## IDENT and STATUS (R168) -/

theorem identRule_badOption {option : Byte} (notZero : option ≠ 0) (notOne : option ≠ 1) (kind : Byte) (s : State) :
    identRule kind [option] s = reply kind (.badField 0) [] s := by
  -- the match on the option is read by these two
  have notNatZero : option.toNat ≠ 0 := fun zero => notZero (BitVec.eq_of_toNat_eq zero)
  have notNatOne : option.toNat ≠ 1 := fun one => notOne (BitVec.eq_of_toNat_eq one)
  simp [identRule, field]

/-- A command taken in every mode, of the right length, is answered by its own rule. -/
theorem handled_rule_inStart {kind : Byte} {payload : List Byte} {rest : List Frame} {lengths : List Nat} {s : State}
    (awaits : Awaits s kind payload rest) (length : payload.length + 1 ∈ lengths)
    (rule : Byte → List Byte → State → State) :
    (.next (s.live (handle (isKind kind) (command lengths true rule))) : Host.Outcome State Fault Refusal)
      = .next (rule kind payload (s.taken rest)) := by
  rw [handle_of_awaits awaits (by simp [isKind])]
  exact congrArg _ (command_rule (s := s.taken rest) length (fun _ => rfl) rule)

/-- Settles O10, by the rule of each command on the state with the frame taken. -/
theorem identAndStatusReport : Obligations.IdentAndStatusReport := by
  intro option rest s
  refine ⟨fun awaits => ?_, fun awaits => handled_rule_inStart awaits (by decide) statusRule⟩
  have taken : exec .ident s = .next (identRule 0x01 [option] (s.taken rest)) :=
    handled_rule_inStart awaits (by simp) identRule
  rw [taken]
  refine ⟨?_, ?_, fun notZero notOne => congrArg _ (identRule_badOption notZero notOne _ _)⟩
  · rintro rfl
    rfl
  · rintro rfl
    rfl

end Sys2Proof.Machine
end

section
/-! The layouts of frames, records, STATUS and the READ-VOICE snapshot (R162, R166, R171, R172), with a reading of a
record's layout that gives the record back (R125). -/

namespace Sys2Proof.Machine

/-! ## STATUS and the READ-VOICE snapshot (R172) -/

theorem optional2_pair (x : Option Nat) : ∃ low high, optional2 x = [low, high] := by
  cases x <;> exact ⟨_, _, rfl⟩

theorem estimateBytes_triple (e : Option Estimate) : ∃ kind low high, estimateBytes e = [kind, low, high] := by
  rcases e with _ | ⟨_ | _, pitch⟩ <;> exact ⟨_, _, _, rfl⟩

theorem candidateBytes_triple (x : Option Candidate) : ∃ count low high, candidateBytes x = [count, low, high] := by
  cases x <;> exact ⟨_, _, _, rfl⟩

/-- The place of a string's two bytes in STATUS. -/
theorem statusData_string (s : State) (n : Str) :
    (statusData s)[2 * (n.number - 1)]? = (s.channel n).statusBytes[0]?
      ∧ (statusData s)[2 * (n.number - 1) + 1]? = (s.channel n).statusBytes[1]? := by
  cases n <;> exact ⟨rfl, rfl⟩

/-- The first of a string's two bytes is wide enough for its voice state and its three flags. -/
theorem Channel.status0_toNat (c : Channel) :
    (byte (c.voice.state.code + 8 * c.voice.damp.toNat + 16 * c.voice.openCause.toNat
        + 32 * c.pendingFlag.toNat)).toNat
      = c.voice.state.code + 8 * c.voice.damp.toNat + 16 * c.voice.openCause.toNat + 32 * c.pendingFlag.toNat := by
  have code : c.voice.state.code ≤ 5 := by cases c.voice.state <;> decide
  have := c.voice.damp.toNat_le
  have := c.voice.openCause.toNat_le
  have := c.pendingFlag.toNat_le
  rw [byte, BitVec.toNat_ofNat]
  omega

/-- Settles O12: the parts of each layout have fixed lengths, and so each byte has one place. -/
theorem statusAndSnapshotLayout : Obligations.StatusAndSnapshotLayout := by
  refine ⟨rfl, rfl, rfl, rfl, rfl, rfl, rfl,
    fun x count pitch => ⟨BitVec.toNat_ofNat x 8, rfl, rfl, rfl, rfl, rfl, rfl⟩,
    fun s => ⟨rfl, fun n => ?_, rfl, rfl, rfl⟩, fun n c => ?_⟩
  · obtain ⟨first, second⟩ := statusData_string s n
    refine ⟨_, _, first, second, Channel.status0_toNat _, ?_⟩
    rw [byteOfBits_toNat]
    rfl
  · obtain ⟨_, _, pitch⟩ := optional2_pair c.voice.currentPitch
    obtain ⟨_, _, timer⟩ := optional2_pair c.voice.acqTimer
    obtain ⟨_, _, _, held⟩ := estimateBytes_triple c.voice.held
    obtain ⟨_, _, _, last⟩ := estimateBytes_triple c.capture.lastEstimate
    obtain ⟨_, _, _, candidate⟩ := candidateBytes_triple c.voice.candidate
    simp only [snapshot, pitch, timer, held, last, candidate]
    exact ⟨rfl, rfl, rfl, rfl, rfl, rfl⟩

/-! ## CHECK (R162) -/

/-- The `k` leading bits of a byte, most significant first. -/
def leadingBits : Nat → Byte → List Bool
  | 0, _ => []
  | k + 1, b => b.getLsbD 7 :: leadingBits k (b <<< 1)

theorem leadingBits_eight (b : Byte) : leadingBits 8 b = [7, 6, 5, 4, 3, 2, 1, 0].map b.getLsbD := by
  simp [leadingBits]

/-- One move of the register, the byte still to be taken added to it, takes the byte's leading bit. -/
theorem crcBits_succ_xor (k : Nat) (r b : Byte) :
    crcBits (k + 1) (r ^^^ b) = crcBits k (checkBit r (b.getLsbD 7) ^^^ (b <<< 1)) := by
  have leading : (r ^^^ b).msb = (r.getLsbD 7 != b.getLsbD 7) := by
    rw [BitVec.msb_eq_getLsbD_last, BitVec.getLsbD_xor]
  rw [crcBits, checkBit, leading, BitVec.shiftLeft_xor_distrib]
  split
  · rw [BitVec.xor_assoc, BitVec.xor_comm (b <<< 1), ← BitVec.xor_assoc]
    rfl
  · rfl

/-- Adding a byte to the register and moving on takes the byte's leading bits one by one. -/
theorem crcBits_xor (k : Nat) (r b : Byte) :
    crcBits k (r ^^^ b) = (leadingBits k b).foldl checkBit r ^^^ (b <<< k) := by
  induction k generalizing r b with
  | zero => simp [crcBits, leadingBits]
  | succ k ih =>
    rw [crcBits_succ_xor, ih, ← BitVec.shiftLeft_add, Nat.add_comm 1 k]
    rfl

theorem crcFrom_eq_foldl (r : Byte) (bytes : List Byte) :
    crcFrom r bytes
      = (bytes.flatMap fun b => [7, 6, 5, 4, 3, 2, 1, 0].map b.getLsbD).foldl checkBit r := by
  induction bytes generalizing r with
  | nil => rfl
  | cons b rest ih =>
    rw [crcFrom, crcBits_xor, BitVec.shiftLeft_eq_zero (Nat.le_refl 8), BitVec.xor_zero, leadingBits_eight, ih,
      List.flatMap_cons, List.foldl_append]

theorem crc8_eq_checkByte (bytes : List Byte) : crc8 bytes = checkByte bytes :=
  crcFrom_eq_foldl 0 bytes

/-! ## Records and their bytes (R125, R171) -/

/-- A frame's bytes hold its KIND and its payload. -/
theorem frameBytes_inj {kind kind' : Byte} {payload payload' : List Byte}
    (same : frameBytes kind payload = frameBytes kind' payload') : kind = kind' ∧ payload = payload' := by
  have body := (List.append_inj' (List.cons.inj same).2 rfl).1
  simpa using (List.cons.inj body).2

/-- The flag that a byte of a NOTE-ON spells. -/
def NoteFlag.ofCode (code : Byte) : Option NoteFlag :=
  [NoteFlag.none, .provisional, .unpitched, .legato, .slid].find? (·.code == code)

@[simp] theorem NoteFlag.ofCode_code (flag : NoteFlag) : ofCode flag.code = some flag := by
  cases flag <;> rfl

/-- The reason that a byte of a NOTE-OFF spells. -/
def OffReason.ofCode (code : Byte) : Option OffReason :=
  [OffReason.release, .restrike, .legato, .slid, .lost, .flush, .reconfigure, .damped, .muted,
    .doze].find? (·.code == code)

@[simp] theorem OffReason.ofCode_code (reason : OffReason) : ofCode reason.code = some reason := by
  cases reason <;> rfl

/-- The reset cause record that a byte spells. -/
def Causes.ofByte (b : Byte) : Causes := ⟨b.getLsbD 0, b.getLsbD 1, b.getLsbD 2, b.getLsbD 3⟩

@[simp] theorem Causes.ofByte_byte (c : Causes) : ofByte c.byte = c := by
  have bit (n : Str) := byteOfBits_getLsbD c.power c.pin c.supplyDrop c.restart false false false false n
  rw [Causes.mk.injEq]
  exact ⟨bit .s1, bit .s2, bit .s3, bit .s4⟩

/-- The string that a byte names. -/
def stringOf (b : Byte) : Option Str := Str.ofNumber b.toNat

@[simp] theorem stringOf_stringByte (n : Str) : stringOf (stringByte n) = some n := by
  cases n <;> rfl

theorem byte_toNat_of_le {x : Nat} (small : x ≤ 127) : (byte x).toNat = x := by
  rw [byte, BitVec.toNat_ofNat]
  omega

theorem signed1_toInt {x : Int} (low : -32 ≤ x) (high : x ≤ 31) : (signed1 x).toInt = x := by
  rw [signed1]
  exact BitVec.toInt_ofInt_eq_self (by decide) (by omega) (by omega)

/-- The signed number that two bytes spell, low byte first. -/
def signedOf (low high : Byte) : Int := (BitVec.ofNat 16 (low.toNat + 256 * high.toNat)).toInt

theorem signedOf_signed2 {x : Int} (low : -1536 ≤ x) (high : x ≤ 1536) :
    ∃ l h, signed2 x = [l, h] ∧ signedOf l h = x := by
  refine ⟨_, _, rfl, ?_⟩
  have word := (BitVec.ofInt 16 x).isLt
  have spelled : (byte ((BitVec.ofInt 16 x).toNat % 256)).toNat
      + 256 * (byte ((BitVec.ofInt 16 x).toNat / 256)).toNat = (BitVec.ofInt 16 x).toNat := by
    rw [byte, byte, BitVec.toNat_ofNat, BitVec.toNat_ofNat]
    omega
  rw [signedOf, spelled, BitVec.ofNat_toNat, BitVec.setWidth_eq]
  exact BitVec.toInt_ofInt_eq_self (by decide) (by omega) (by omega)

/-- The record that a KIND and a payload of the table of R171 spell. A waker that is no string is the command. -/
def readRecord (kind : Byte) (payload : List Byte) : Option Record :=
  match kind.toNat, payload with
  | 0x80, [n, serial, base, velocity, offset, flag] => do
    return .noteOn (← stringOf n) serial base.toNat velocity.toNat offset.toInt (← NoteFlag.ofCode flag)
  | 0x81, [n, serial, reason] => do return .noteOff (← stringOf n) serial (← OffReason.ofCode reason)
  | 0x82, [n, serial, low, high] => do return .glide (← stringOf n) serial (signedOf low high)
  | 0x83, [n, serial, base, offset] => do return .pitchFix (← stringOf n) serial base.toNat offset.toInt
  | 0x84, [n, code, now] =>
    match code.toNat with
    | 0 => do return .condition (.string .clip (← stringOf n)) (now == 1)
    | 1 => do return .condition (.string .openKind (← stringOf n)) (now == 1)
    | 2 => some (.condition .backlog (now == 1))
    | _ => none
  | 0x85, topic :: detail =>
    match topic.toNat, detail with
    | 0, [causes] => some (.notice (.hello (.ofByte causes)))
    | 1, [waker] => some (.notice (.woke ((stringOf waker).elim .command .string)))
    | 2, [] => some (.notice .dozing)
    | 3, [] => some (.notice .dampOn)
    | 4, [] => some (.notice .dampOff)
    | _, _ => none
  | _, _ => none

@[simp] theorem flagByte_beq_one (b : Bool) : (flagByte b == 1#8) = b := by
  cases b <;> rfl

/-- A record whose fields lie in their ranges is read back from its layout. -/
theorem readRecord_layout {r : Record} (ranges : r.inRange) : readRecord r.layout.1 r.layout.2 = some r := by
  cases r with
  | noteOn n serial base velocity offset flag =>
    obtain ⟨baseHigh, -, velocityHigh, offsetLow, offsetHigh⟩ := ranges
    simp [readRecord, Record.layout, byte_toNat_of_le baseHigh, byte_toNat_of_le velocityHigh,
      signed1_toInt offsetLow offsetHigh]
  | noteOff n serial reason => simp [readRecord, Record.layout]
  | glide n serial offset =>
    obtain ⟨low, high, spelled, same⟩ := signedOf_signed2 ranges.1 ranges.2
    simp [readRecord, Record.layout, spelled, same]
  | pitchFix n serial base offset =>
    obtain ⟨baseHigh, offsetLow, offsetHigh⟩ := ranges
    simp [readRecord, Record.layout, byte_toNat_of_le baseHigh, signed1_toInt offsetLow offsetHigh]
  | condition source now =>
    rcases source with ⟨_ | _, n⟩ | _ <;> simp [readRecord, Record.layout]
  | notice topic =>
    rcases topic with causes | (n | _) | _ | _ | _
    · simp [readRecord, Record.layout]
    · simp [readRecord, Record.layout]
    · rfl
    · rfl
    · rfl
    · rfl

/-- Settles O56: CHECK by the bits it takes, and the records' difference by reading a record back. -/
theorem recordFramesDiffer : Obligations.RecordFramesDiffer := by
  refine ⟨fun kind payload => ?_, crc8_eq_checkByte, fun n serial base velocity offset flag reason now causes => ?_,
    rfl, rfl, fun _ => rfl, rfl, fun _ => rfl, fun r r' ranges ranges' same => ?_⟩
  · dsimp only
    rw [← crc8_eq_checkByte]
    rfl
  · refine ⟨rfl, rfl, rfl, rfl, rfl, rfl, rfl, rfl, rfl, rfl, rfl, rfl, rfl, ?_⟩
    rw [Causes.byte, byteOfBits_toNat]
    rfl
  · obtain ⟨kind, payload⟩ := frameBytes_inj same
    rw [← Option.some_inj, ← readRecord_layout ranges, ← readRecord_layout ranges', kind, payload]

end Sys2Proof.Machine
end

section
/-! The resets and the reset cause record (R151, R161, R174, R175): the state after power-on, POWER_ON, SUPPLY_DROP,
RESET_N and its release, the part held in reset, and RESTART_RESET. -/

namespace Sys2Proof.Machine

/-! ## The state after power-on (R140, R149, R151, R174) -/

/-- A steady state is sound where the laws of its settings, capture units, markers and queued GLIDEs hold too. -/
theorem Steady.invariant {s : State} (h : Steady s) (settings : ∀ n, (s.channel n).SettingsHeld n)
    (capture : CaptureLaw s) (conditions : ConditionLaw s) (glides : OneGlideLaw s) : Invariant s where
  settings := ⟨fun n => (settings n).active, fun n => (settings n).staged, fun n => (settings n).copied,
    h.shared.globals⟩
  capture := capture
  timebase := h.shared.timebase
  conditions := conditions
  queue := h.ledger.queue
  backlog := h.ledger.backlog
  oneGlide := glides
  noteOrder := h.ledger.order
  channels n := (h.sound n).lawful
  damp := ⟨h.shared.mute.off, h.shared.mute.follow, h.shared.mute.latched, fun n => (h.sound n).damp⟩
  start := h.start
  doze dozes := ⟨h.shared.idle dozes, fun n => (h.sound n).doze dozes⟩
  pending started n := (h.sound n).pending started
  link := h.shared.link
  frames := h.shared.frames

/-- A reset to the defaults, the record, the straps and the pins' levels apart, is the state after power-on. -/
theorem State.defaulted_eq (causes : Causes) (straps : Straps) (s : State) :
    s.defaulted causes straps = { State.reset with
      link := .reset straps, mute := .reset s.mute.pin, pending := s.pending,
      modes := .reset causes s.modes.resetPinLow } := rfl

@[simp] theorem State.reset_channel (n : Str) : State.reset.channel n = .default n := Eight.get_of ..

theorem reset_steady : Steady State.reset := defaulted_steady .powerOnly ⟨false, false⟩ State.reset

theorem reset_invariant : Invariant State.reset := by
  refine reset_steady.invariant (fun n => ?_) (fun n => ?_) ⟨fun n => ?_, nofun, nofun⟩ fun _ => Nat.zero_le 1
  all_goals rw [State.reset_channel]
  exacts [Channel.default_settingsHeld n, Channel.reset_captureLaw .., Channel.reset_markersLawful ..]

theorem defaultProfile_eq_defaultColumn (n : Str) : defaultProfile n = defaultColumn n := by
  cases n <;> rfl

/-- Settles O3, by the laws that every reset to the defaults leaves and the values of each block. -/
theorem resetIsSound : Obligations.ResetIsSound := by
  refine ⟨reset_invariant, reset_steady.start rfl, rfl, rfl, rfl, rfl, rfl, rfl, rfl, fun n => ?_⟩
  rw [State.reset_channel, ← defaultProfile_eq_defaultColumn]
  exact ⟨rfl, rfl, rfl, rfl, rfl⟩

/-! ## The supply and RESET_N (R161, R174) -/

section
variable {s : State}

theorem State.strapsRead_of_released (released : s.modes.resetPinLow = false) (straps : Straps) :
    s.strapsRead straps = straps := by
  simp [strapsRead, released]

theorem State.strapsRead_of_held (held : s.modes.resetPinLow = true) (straps : Straps) :
    s.strapsRead straps = s.link.straps := by
  simp [strapsRead, held]

theorem exec_powerOn (straps : Straps) (s : State) :
    exec (.powerOn straps) s = .next (s.defaulted .powerOnly (s.strapsRead straps)) := rfl

theorem exec_supplyDrop (straps : Straps) (s : State) : exec (.supplyDrop straps) s
    = .next (s.defaulted { s.modes.causes with supplyDrop := true } (s.strapsRead straps)) := rfl

theorem exec_resetN (released : s.modes.resetPinLow = false) : exec .resetN s = .next (pinReset s) :=
  congrArg _ (State.live_of_released released _)

theorem pinReleased_of_held (held : s.modes.resetPinLow = true) (straps : Straps) :
    pinReleased straps s = { s with
      link := { s.link with straps := straps }, modes := { s.modes with resetPinLow := false } } :=
  if_pos held

theorem pinReleased_of_released (released : s.modes.resetPinLow = false) (straps : Straps) :
    pinReleased straps s = s := by
  simp [pinReleased, released]

end

/-- Settles O4, each event by the reset to the defaults it makes. -/
theorem supplyAndPinResets : Obligations.SupplyAndPinResets := by
  intro straps s
  refine ⟨fun released => ?powerOn, fun released => ?supplyDrop, fun released => ?resetN,
    fun released => congrArg _ (pinReleased_of_released released straps),
    fun held => congrArg _ (pinReleased_of_held held straps)⟩
  case powerOn => rw [exec_powerOn, State.strapsRead_of_released released, State.defaulted_eq, released]; rfl
  case supplyDrop => rw [exec_supplyDrop, State.strapsRead_of_released released, State.defaulted_eq, released]
  case resetN => exact exec_resetN released

/-! ## The part held in reset (R174) -/

/-- Every step but the supply's and the release of RESET_N acts only while RESET_N is released. -/
theorem exec_live {i : Instr}
    (inside : ∀ straps, i ≠ .powerOn straps ∧ i ≠ .supplyDrop straps ∧ i ≠ .resetNReleased straps) :
    ∃ op, ∀ s, exec i s = .next (s.live op) := by
  cases i with
  | powerOn straps => exact absurd rfl (inside straps).1
  | supplyDrop straps => exact absurd rfl (inside straps).2.1
  | resetNReleased straps => exact absurd rfl (inside straps).2.2
  | _ => exact ⟨_, fun _ => rfl⟩

/-- Settles O5: a step of the part's inside finds RESET_N held, and the supply's events leave it so. -/
theorem heldInReset : Obligations.HeldInReset := by
  intro i s held
  refine ⟨fun inside => ?_, fun straps => ⟨?_, ?_⟩⟩
  · obtain ⟨op, acts⟩ := exec_live inside
    rw [acts, State.live_of_held held]
  · rw [exec_powerOn, State.strapsRead_of_held held, State.defaulted_eq, held]; rfl
  · rw [exec_supplyDrop, State.strapsRead_of_held held, State.defaulted_eq, held]

/-! ## RESTART_RESET (R151, R175) -/

section
variable {s : State}

/-- A restart takes effect at the end of its reply, which FRAME_SENT has marked or RESTART_RESET names. -/
theorem State.restartNow_iff : s.restartNow = true ↔ s.modes.restart = .replySent
    ∨ (s.modes.restart = .due ∧ ∃ bytes, s.link.tx = .sending bytes true) := by
  unfold restartNow
  cases s.link.tx <;> simp

theorem exec_restartReset (released : s.modes.resetPinLow = false) (straps : Straps) :
    exec (.restartReset straps) s = .next (restartReset straps s) :=
  congrArg _ (State.live_of_released released _)

theorem restartReset_of_now (now : s.restartNow = true) (straps : Straps) :
    restartReset straps s = s.afterReset (.of fun n => (s.channel n).restarted) s.globals
      { s.modes.causes with restart := true } straps :=
  if_pos now

theorem restartReset_of_not_now (notNow : s.restartNow ≠ true) (straps : Straps) : restartReset straps s = s :=
  if_neg notNow

end

/-- Settles O6, by whether the RESTART's reply ends here. -/
theorem restartResets : Obligations.RestartResets := by
  intro straps s released
  rw [exec_restartReset released]
  refine ⟨fun now => ?_, fun notNow => congrArg _ (restartReset_of_not_now (fun now => ?_) straps)⟩
  · rw [restartReset_of_now (State.restartNow_iff.mpr now), State.afterReset, released]
    rfl
  · rcases State.restartNow_iff.mp now with sent | ⟨due, bytes, sending⟩
    · rcases notNow with none | ⟨due, -⟩
      · exact nomatch none.symm.trans sent
      · exact nomatch due.symm.trans sent
    · rcases notNow with none | ⟨-, other⟩
      · exact nomatch none.symm.trans due
      · exact other bytes sending

end Sys2Proof.Machine
end

section
/-! The end of START (R2, R15, R65, R131, R173). -/

namespace Sys2Proof.Machine

/-! ## A string as START ends -/

/-- The string with its lane's measured offset taken (R2). -/
def Channel.measured (c : Channel) : Channel := { c with lane := c.lane.startEnd }

section
variable (active staged : Profile) (startSum : Int)

/-- With no profile pending, the measured offset is all that START's end brings to a string. -/
theorem Channel.measured_toQuiet_kept (damped : Bool) :
    ({ Channel.reset active staged false with
        lane := { Lane.reset with startSum := startSum } } : Channel).measured.toQuiet damped
      = { Channel.reset active staged false with
        lane := { Lane.reset with offset := roundHalfAway startSum 4096 } } := rfl

/-- A lane as START ends that takes a profile: the measured offset rescaled (R2, R16). -/
theorem Lane.startEnd_commit :
    ({ Lane.reset with startSum := startSum } : Lane).startEnd.commit active staged
      = { Lane.reset with offset := rescaledOffset active staged (roundHalfAway startSum 4096) } := by
  unfold commit
  dsimp only
  split <;> rfl

/-- A pending profile commits, the damp mute not in force, and rescales the measured offset (R16, R65, R144). -/
theorem Channel.measured_toQuiet_commits :
    ({ Channel.reset active staged true with
        lane := { Lane.reset with startSum := startSum } } : Channel).measured.toQuiet false
      = { Channel.reset staged staged false with
        lane := { Lane.reset with
          offset := rescaledOffset active staged (roundHalfAway startSum 4096) } } := by
  have lane := Lane.startEnd_commit active staged startSum
  rw [toQuiet_commits rfl, ← lane]
  cases enables : staged.enabled
  · simp only [commit, measured, entering, reset, Capture.commit, Detector.commit, enables, Bool.false_eq_true,
      if_false]
    rfl
  · simp only [commit, measured, entering, reset, Capture.commit, Detector.commit, enables, Bool.and_false,
      Bool.false_eq_true, if_true, if_false]
    rfl

end

/-! ## The whole part as START ends -/

/-- The part with every offset measured and every voice entered QUIET. -/
def State.quieted (s : State) : State := forStrings enterQuiet Str.all (s.modAll Channel.measured)

section
variable {s : State}

theorem State.modAll_outside (s : State) (f : Channel → Channel) : Outside s (s.modAll f) :=
  ⟨rfl, rfl, rfl, rfl, rfl, rfl, rfl, rfl, rfl⟩

theorem State.quieted_outside (s : State) : Outside s s.quieted :=
  (s.modAll_outside _).trans
    (forStrings_outside enterQuiet (fun n t => (enterQuiet_onlyString n t).outside) Str.all _)

theorem State.quieted_queue (s : State) : s.quieted.queue = s.queue ∧ s.quieted.backlog = s.backlog :=
  forStrings_induct (P := fun t => t.queue = s.queue ∧ t.backlog = s.backlog) enterQuiet
    (fun n t same => by rw [enterQuiet_eq]; exact same) Str.all _ ⟨rfl, rfl⟩

theorem State.quieted_channel (s : State) (n : Str) :
    s.quieted.channel n = (s.channel n).measured.toQuiet s.mute.inForce := by
  obtain ⟨u, outside, same, taken⟩ :=
    forStrings_string enterQuiet_onlyString Str.all_nodup n.mem_all (s.modAll Channel.measured)
  rw [quieted, taken, enterQuiet_channel, same, State.channel_modAll, outside.mute, State.mute_modAll]

/-- In START the queue is empty, so that HELLO is admitted and stays below the high-water setting (R131, R136). -/
theorem offerPlain_of_reset (queue : s.queue = .reset) (backlog : s.backlog = .clear) (valid : s.globals.Valid)
    (r : Record) : offerPlain r s = s.append r := by
  have room : s.hasRoom 1 = true := by rw [State.hasRoom, queue]; rfl
  have low : BacklogLaw (s.append r) := by
    have eight := valid.highWater.1
    refine (congrArg Markers.active backlog).trans (decide_eq_false ?_).symm
    rw [State.queue_append, queue]
    exact Nat.not_le.mpr (Nat.lt_of_lt_of_le (by decide : 1 < 8) eight)
  rw [offerPlain, if_pos room, updateBacklog_of_law low]

theorem endStart_of_due (starts : s.modes.mode = .start) (settled : s.modes.settle = 512) :
    endStart s = { offerPlain (.notice (.hello s.modes.causes)) s.quieted with
      modes := { (offerPlain (.notice (.hello s.modes.causes)) s.quieted).modes with
        mode := .run, idle := 0, idleDue := false } } :=
  if_pos (by rw [starts, settled]; rfl)

theorem endStart_of_not_due (notDue : s.modes.mode ≠ .start ∨ s.modes.settle ≠ 512) : endStart s = s := by
  rcases notDue with other | early
  · simp [endStart, other]
  · simp [endStart, startFrames, early]

/-- A step whose operation finds nothing to do changes nothing, RESET_N held or released. -/
theorem State.live_of_stands {op : State → State} (stands : op s = s) : s.live op = s := by
  unfold live
  split
  · rfl
  · exact stands

theorem exec_startEnd (released : s.modes.resetPinLow = false) : exec .startEnd s = .next (endStart s) :=
  congrArg _ (State.live_of_released released _)

end

/-- Settles O7, by the strings entering QUIET and HELLO joining the empty queue. -/
theorem startEnds : Obligations.StartEnds := by
  intro s
  refine ⟨fun released starts settled form valid => ⟨_, exec_startEnd released, ?_⟩,
    fun notDue => congrArg _ (State.live_of_stands (endStart_of_not_due notDue))⟩
  have outside := s.quieted_outside
  obtain ⟨queue, backlog⟩ := s.quieted_queue
  have greeted := offerPlain_of_reset (s := s.quieted) (queue.trans form.queue) (backlog.trans form.backlog)
    (by rw [outside.globals]; exact valid) (.notice (.hello s.modes.causes))
  have reset : s.quieted.queue = .reset := queue.trans form.queue
  have gateOpen : s.quieted.queue.gateOpen = s.queue.gateOpen := congrArg Queue.gateOpen queue
  have undamped : s.mute.inForce = false := congrArg Mute.inForce form.mute
  rw [endStart_of_due starts settled, greeted]
  refine ⟨congrArg (fun m : Modes => { m with mode := .run, idle := 0, idleDue := false }) outside.modes,
    congrArg (fun q : Queue => q.records ++ [_]) reset, congrArg Queue.dropped reset,
    congrArg Queue.reserved reset, gateOpen, outside.timebase.trans form.timebase.1,
    outside.timebaseRunning.trans form.timebase.2, outside.globals, outside.lock, outside.link, outside.mute,
    outside.frameSamples, fun n => ?_⟩
  change (_ → s.quieted.channel n = _) ∧ (_ → s.quieted.channel n = _)
  rw [s.quieted_channel, undamped]
  have string := form.channels n
  refine ⟨fun kept => ?_, fun pending => ?_⟩
  · rw [kept] at string
    rw [string]
    exact Channel.measured_toQuiet_kept ..
  · rw [pending] at string
    rw [string]
    exact Channel.measured_toQuiet_commits ..

end Sys2Proof.Machine
end

section
/-! The two wakes (R57, R177): the handler's frames of KIND 0Dh, the WAKE command, and WAKE_BY_STRING with the ONSETs
it brings to the strings in the order of the step (R35, R65, R94, R101, R106). -/

namespace Sys2Proof.Machine

/-! ## Offers -/

/-- What an offer leaves is told by the queue, the BACKLOG markers and the settings (R131, R136). -/
theorem offered_congr {r : Record} {s s' t t' : State} (offered : Offered r s' t') (queue : s'.queue = s.queue)
    (backlog : s'.backlog = s.backlog) (queue' : t.queue = t'.queue) (backlog' : t.backlog = t'.backlog)
    (globals : t.globals = t'.globals) : Offered r s t := by
  have room : s.hasRoom 1 = s'.hasRoom 1 := by rw [State.hasRoom, State.hasRoom, queue]
  refine ⟨fun free => ?_, fun full => ?_⟩
  · obtain ⟨admitted, reserved⟩ := offered.1 (room.symm.trans free)
    exact ⟨admitted_congr admitted queue backlog queue' backlog' globals, by rw [queue', reserved, queue]⟩
  · obtain ⟨refused, stands⟩ := offered.2 (room.symm.trans full)
    exact ⟨by rw [queue', refused, queue], by rw [backlog', stands, backlog]⟩

/-- The return to RUN offers its NOTICE (R131, R177). -/
theorem returnToRun_offered (cause : WakeCause) (s : State) :
    Offered (.notice (.woke cause)) s (returnToRun cause s) :=
  offered_congr_left (offerPlain_is_offered ..) rfl rfl

/-! ## A frame of KIND 0Dh (R168, log 12) -/

section
variable {s : State}

theorem dozeWakeRule_doze (kind : Byte) (s : State) :
    dozeWakeRule kind [0] s = reply kind .taken [] (if s.modes.mode = .run then enterDoze s else s) := rfl

theorem dozeWakeRule_wake (kind : Byte) (s : State) :
    dozeWakeRule kind [1] s = reply kind .taken [] (if s.modes.mode = .doze then wakeByCommand s else s) := rfl

theorem dozeWakeRule_badOperand {operand : Byte} (notDoze : operand ≠ 0) (notWake : operand ≠ 1) (kind : Byte)
    (s : State) : dozeWakeRule kind [operand] s = reply kind (.badField 0) [] s := by
  -- the match on the operand is read by these two
  have notZero : operand.toNat ≠ 0 := fun zero => notDoze (BitVec.eq_of_toNat_eq zero)
  have notOne : operand.toNat ≠ 1 := fun one => notWake (BitVec.eq_of_toNat_eq one)
  simp [dozeWakeRule, field]

/-- A frame of KIND 0Dh that does not spell the other command is answered by the rule of both. -/
theorem dozeWake_handled {operand other : Byte} {rest : List Frame} (awaits : Awaits s 0x0d [operand] rest)
    (started : s.modes.mode ≠ .start) (mine : operand ≠ other) :
    (.next (s.live (handle (isDozeWake other) (command [2] false dozeWakeRule))) : Host.Outcome State Fault Refusal)
      = .next (dozeWakeRule 0x0d [operand] (s.taken rest)) := by
  rw [handle_of_awaits awaits (by simp [isDozeWake, mine])]
  exact congrArg _ (command_rule (s := s.taken rest) (by simp) (fun starts => absurd starts started) dozeWakeRule)

end

/-! ## The WAKE command (R177) -/

theorem wakeByCommand_channel (s : State) (n : Str) :
    (wakeByCommand s).channel n = { s.channel n with
      detector := { (s.channel n).detector with
        judgementDue := s.modes.wakeDue && (s.channel n).active.enabled } } := by
  rw [wakeByCommand, State.channel_modAll, returnToRun_channel]

/-- Settles O23, by the rule of KIND 0Dh on the state with the frame taken. -/
theorem wakeReturnsToRun : Obligations.WakeReturnsToRun := by
  intro operand rest s
  refine ⟨fun awaits dozes => ⟨_, dozeWake_handled awaits (by simp [dozes]) (by decide), ?_⟩,
    fun awaits runs => ?_, fun awaits started notDoze notWake => ?_⟩
  · rw [dozeWakeRule_wake, if_pos (show (s.taken rest).modes.mode = .doze from dozes)]
    have beyond := returnToRun_beyond .command (s.taken rest)
    obtain ⟨modes, mute⟩ := returnToRun_registers .command (s.taken rest)
    exact ⟨modes, offered_congr (returnToRun_offered .command (s.taken rest)) rfl rfl rfl rfl rfl,
      wakeByCommand_channel (s.taken rest), beyond.globals, beyond.lock, mute, beyond.timebase, _, rfl, rfl, rfl⟩
  · refine (dozeWake_handled awaits (by simp [runs]) (by decide)).trans (congrArg _ ?_)
    rw [dozeWakeRule_wake, if_neg (by simp [State.taken, runs])]
  · exact (dozeWake_handled awaits started notDoze).trans
      (congrArg _ (dozeWakeRule_badOperand notDoze notWake ..))

end Sys2Proof.Machine
end

section
/-! WAKE_BY_STRING (R57, R177): the ONSETs it brings to the strings in the order of the step (R35, R65, R94, R101,
R106). -/

namespace Sys2Proof.Machine

/-! ## The waking strings, in order -/

theorem wakes_iff (s : State) (n : Str) : wakes s n = true ↔ Waking s n := by
  simp [wakes, Waking]

theorem Str.all_ascends : Str.all.Pairwise fun n m => n.number < m.number := by decide

/-- The first of the waking strings is the lowest-numbered (R177). -/
theorem filter_wakes_lowest {s : State} {lowest : Str} (waking : Waking s lowest)
    (least : ∀ n, Waking s n → lowest.number ≤ n.number) :
    ∃ rest, Str.all.filter (wakes s) = lowest :: rest := by
  have ascends := Str.all_ascends.sublist (List.filter_sublist (p := wakes s))
  have member : lowest ∈ Str.all.filter (wakes s) :=
    List.mem_filter.mpr ⟨lowest.mem_all, (wakes_iff s lowest).mpr waking⟩
  have least (n : Str) (mem : n ∈ Str.all.filter (wakes s)) : lowest.number ≤ n.number :=
    least n ((wakes_iff s n).mp (List.mem_filter.mp mem).2)
  cases found : Str.all.filter (wakes s) with
  | nil => exact absurd (found ▸ member) List.not_mem_nil
  | cons first rest =>
    rw [found] at ascends member least
    rcases List.mem_cons.mp member with rfl | later
    · exact ⟨rest, rfl⟩
    · have above := (List.pairwise_cons.mp ascends).1 lowest later
      exact absurd (least first List.mem_cons_self) (Nat.not_le.mpr above)

theorem filter_wakes_none {s : State} (none : ∀ n, ¬Waking s n) : Str.all.filter (wakes s) = [] :=
  List.filter_eq_nil_iff.mpr fun n _ wakes => none n ((wakes_iff s n).mp wakes)

/-- Among different strings, those that stand before one are those of the list's part before it. -/
theorem idxOf_lt_iff_mem {before after : List Str} {n m : Str} (fresh : n ∉ before) :
    (before ++ n :: after).idxOf m < (before ++ n :: after).idxOf n ↔ m ∈ before := by
  have here : (before ++ n :: after).idxOf n = before.length := by
    rw [List.idxOf_append_of_notMem fresh, List.idxOf_cons_self, Nat.add_zero]
  rw [here]
  by_cases member : m ∈ before
  · rw [List.idxOf_append_of_mem member]
    exact iff_of_true (List.idxOf_lt_length_of_mem member) member
  · rw [List.idxOf_append_of_notMem member]
    exact iff_of_false (Nat.not_lt.mpr (Nat.le_add_right ..)) member

theorem forStrings_append (op : Str → State → State) (l k : List Str) (s : State) :
    forStrings op (l ++ k) s = forStrings op k (forStrings op l s) := by
  induction l generalizing s with
  | nil => rfl
  | cons n l ih => exact ih (op n s)

/-! ## An ONSET with the wake mark (R35, R57, R65) -/

/-- The string as its voice takes an attack with the wake mark: the guard count has the extension of 2 (R35). -/
def Channel.takesWake (pass : Bool) (c : Channel) : Channel :=
  { c.takesAttack pass 0 with
    capture := { restartedRing c.active c.capture with guard := c.active.attackGuard + 2 } }

section
variable {n : Str} {s : State}

/-- An ONSET with the wake mark at a QUIET voice. -/
theorem voiceOnset_of_wake (quiet : (s.channel n).voice.state = .quiet) (lawful : (s.channel n).voice.Lawful) :
    voiceOnset n true s = s.mod n (Channel.takesWake (bleedPasses s n)) := by
  have bare := lawful.entering_bare (by simp [quiet]) (by simp [quiet])
  simp only [voiceOnset, quiet, if_true, restartRing, State.mod_mod]
  refine State.mod_congr ?_
  cases bleedPasses s n
  · simp only [Bool.false_eq_true, if_false, Channel.suspecting, Channel.entering, bare]; rfl
  · simp only [if_true, Channel.acquiring, Channel.entering, bare]; rfl

/-- The string as a wake by string leaves it (R57). -/
def Channel.woken (pass : Bool) (c : Channel) : Channel :=
  if c.voice.state = .quiet then (c.struck c.active.velocityReference).takesWake pass
  else c.struck c.active.velocityReference

theorem wakeString_eq (lawful : (s.channel n).voice.Lawful) (judged : (s.channel n).detector.judgementDue = false) :
    wakeString n s = s.mod n (Channel.woken (bleedPasses s n)) := by
  have gate : wakeString n s
      = voiceOnset n true (s.mod n (Channel.struck (s.channel n).active.velocityReference)) := by
    have same := attackGate_eq (n := n) (s := s) (f := id) judged (s.channel n).active.velocityReference
      (voiceOnset n true)
    rwa [State.mod_eq_self rfl] at same
  rw [gate]
  by_cases quiet : (s.channel n).voice.state = .quiet
  · rw [voiceOnset_of_wake (by simpa using quiet) (by simpa using lawful), struck_bleedPasses, State.mod_mod]
    exact State.mod_congr (if_pos quiet).symm
  · rw [voiceOnset_of_not_quiet (by simpa using quiet)]
    exact State.mod_congr (if_neg quiet).symm

theorem Channel.woken_lane (pass : Bool) (c : Channel) : (c.woken pass).lane = c.lane := by
  unfold woken; split <;> rfl

/-- A QUIET or MUTED source does not count (R99). -/
theorem Voice.counts_of_calm {v : Voice} (calm : v.state = .quiet ∨ v.state = .muted) : v.counts = false := by
  rcases calm with quiet | muted
  · simp [counts, quiet]
  · simp [counts, muted]

/-- A wake begins no note. -/
theorem Channel.woken_counts (pass : Bool) {c : Channel} (calm : c.voice.state = .quiet ∨ c.voice.state = .muted) :
    (c.woken pass).voice.counts = true ↔ (c.woken pass).voice.state = .acquiring := by
  unfold woken
  rcases calm with quiet | muted
  · rw [if_pos quiet]; cases pass <;> simp [takesWake, takesAttack, acquiringVoice, bareVoice, Voice.counts]
  · rw [if_neg (by simp [muted]), struck_voice, Voice.counts_of_calm (.inr muted)]
    simp [muted]

theorem wakeString_queue (n : Str) (s : State) :
    (wakeString n s).queue = s.queue ∧ (wakeString n s).backlog = s.backlog := by
  unfold wakeString attackGate voiceOnset
  split <;> exact ⟨rfl, rfl⟩

end

/-! ## The part awake -/

/-- The part returned to RUN by string `lowest`, with no re-arm wait left (R57, log 16). -/
def State.roused (lowest : Str) (s : State) : State :=
  (returnToRun (.string lowest) s).modAll fun c => { c with detector := { c.detector with rearmWait := false } }

section
variable {s : State} {lowest : Str} {order : List Str}

theorem State.roused_channel (lowest : Str) (s : State) (n : Str) : (s.roused lowest).channel n
    = { s.channel n with detector := { (s.channel n).detector with rearmWait := false } } := by
  rw [roused, State.channel_modAll, returnToRun_channel]

theorem wakeByString_wakes (dozes : s.modes.mode = .doze) (owed : s.modes.wakeDue = true)
    (waking : Waking s lowest) (least : ∀ n, Waking s n → lowest.number ≤ n.number) :
    wakeByString order s = forStrings wakeString ((Str.inOrder order).filter (wakes s)) (s.roused lowest) := by
  obtain ⟨rest, found⟩ := filter_wakes_lowest waking least
  simp only [wakeByString, dozes, owed, found]
  rfl

theorem wakeByString_dozesOn (dozes : s.modes.mode = .doze) (owed : s.modes.wakeDue = true)
    (none : ∀ n, ¬Waking s n) :
    wakeByString order s = { s with modes := { s.modes with wakeDue := false } } := by
  simp only [wakeByString, dozes, owed, filter_wakes_none none]
  rfl

theorem wakeByString_of_not_owed (notOwed : s.modes.mode ≠ .doze ∨ s.modes.wakeDue = false) :
    wakeByString order s = s := by
  rcases notOwed with other | made
  · simp [wakeByString, other]
  · simp [wakeByString, made]

theorem exec_wakeByString (released : s.modes.resetPinLow = false) (order : List Str) :
    exec (.wakeByString order) s = .next (wakeByString order s) :=
  congrArg _ (State.live_of_released released _)

end

/-! ## The strings after the wake -/

section
variable {w : State} (calm : ∀ n, (w.channel n).voice.state = .quiet ∨ (w.channel n).voice.state = .muted)
  (lawful : ∀ n, (w.channel n).voice.Lawful) (judged : ∀ n, (w.channel n).detector.judgementDue = false)
include lawful judged

/-- The ONSETs of a list leave a string of it woken and another as it was. -/
theorem forStrings_wakeString_channel {l : List Str} (nodup : l.Nodup) (m : Str) :
    (forStrings wakeString l w).channel m = w.channel m
      ∨ ∃ pass, (forStrings wakeString l w).channel m = (w.channel m).woken pass := by
  by_cases member : m ∈ l
  · obtain ⟨v, -, same, taken⟩ := forStrings_string wakeString_onlyString nodup member w
    refine .inr ⟨bleedPasses v m, ?_⟩
    rw [taken, wakeString_eq (same ▸ lawful m) (same ▸ judged m), State.channel_mod_self, same]
  · exact .inl (forStrings_others wakeString_onlyString member w)

theorem forStrings_wakeString_envelope {l : List Str} (nodup : l.Nodup) (m : Str) :
    ((forStrings wakeString l w).channel m).lane.envelope = (w.channel m).lane.envelope := by
  rcases forStrings_wakeString_channel lawful judged nodup m with stands | ⟨pass, woken⟩
  · rw [stands]
  · rw [woken, Channel.woken_lane]

include calm

/-- Within a wake the sources that count are ACQUIRING. -/
theorem forStrings_wakeString_counts {l : List Str} (nodup : l.Nodup) (m : Str) :
    ((forStrings wakeString l w).channel m).voice.counts = true
      ↔ ((forStrings wakeString l w).channel m).voice.state = .acquiring := by
  rcases forStrings_wakeString_channel lawful judged nodup m with stands | ⟨pass, woken⟩
  · rw [stands, Voice.counts_of_calm (calm m)]
    refine iff_of_false Bool.false_ne_true ?_
    rcases calm m with quiet | muted
    · simp [quiet]
    · simp [muted]
  · rw [woken, Channel.woken_counts pass (calm m)]

/-- A waking string is woken under the bleed test of R106: against the sources that took their attack before it. -/
theorem forStrings_wakeString_passes {s : State} {order : List Str} {n : Str} (waking : Waking s n)
    (envelope : ∀ m, (w.channel m).lane.envelope = (s.channel m).lane.envelope)
    (associations : (w.channel n).active.associations = (s.channel n).active.associations) :
    let t := forStrings wakeString ((Str.inOrder order).filter (wakes s)) w
    ∃ pass, t.channel n = (w.channel n).woken pass ∧ (pass = true ↔ WakePasses order n s t) := by
  obtain ⟨before, after, split⟩ := List.append_of_mem (Str.mem_inOrder order n)
  have nodup := Str.inOrder_nodup order
  have order_eq : (Str.inOrder order).filter (wakes s) = before.filter (wakes s) ++ n :: after.filter (wakes s) := by
    rw [split, List.filter_append, List.filter_cons_of_pos ((wakes_iff s n).mpr waking)]
  rw [split] at nodup
  obtain ⟨nodupBefore, nodupAfter, apart⟩ := List.nodup_append.mp nodup
  have freshBefore : n ∉ before := fun mem => apart n mem n List.mem_cons_self rfl
  have freshAfter := (List.nodup_cons.mp nodupAfter).1
  have tookBefore := nodupBefore.filter (wakes s)
  set u := forStrings wakeString (before.filter (wakes s)) w with u_def
  have own : u.channel n = w.channel n :=
    forStrings_others wakeString_onlyString (fun mem => freshBefore (List.mem_filter.mp mem).1) w
  have counts (m : Str) : (u.channel m).voice.counts = true ↔ m ∈ before
      ∧ ((forStrings wakeString (after.filter (wakes s)) (wakeString n u)).channel m).voice.state = .acquiring := by
    by_cases member : m ∈ before
    · have later : m ∉ after.filter (wakes s) := fun mem =>
        apart m member m (List.mem_cons_of_mem _ (List.mem_filter.mp mem).1) rfl
      rw [forStrings_others wakeString_onlyString later, (wakeString_onlyString n u).others m
        fun same => freshBefore (same ▸ member), forStrings_wakeString_counts calm lawful judged tookBefore]
      exact (and_iff_right member).symm
    · have stands : u.channel m = w.channel m :=
        forStrings_others wakeString_onlyString (fun mem => member (List.mem_filter.mp mem).1) w
      rw [stands, Voice.counts_of_calm (calm m)]
      exact iff_of_false Bool.false_ne_true fun taken => member taken.1
  dsimp only
  rw [order_eq, forStrings_append, ← u_def]
  refine ⟨bleedPasses u n, ?_, ?_⟩
  · refine (forStrings_others wakeString_onlyString (fun mem => freshAfter (List.mem_filter.mp mem).1) _).trans ?_
    rw [wakeString_eq (own ▸ lawful n) (own ▸ judged n), State.channel_mod_self, own]
  · have heard (m : Str) : (u.channel m).lane.envelope = (s.channel m).lane.envelope :=
      (forStrings_wakeString_envelope lawful judged tookBefore m).trans (envelope m)
    simp only [bleedPasses, own, associations, List.all_eq_true, WakePasses, split, idxOf_lt_iff_mem freshBefore]
    refine forall_congr' fun a => forall_congr' fun _ => ?_
    rw [← and_imp, forStrings, ← counts, ← own, heard, heard]
    simp [or_iff_not_imp_left]

end

/-- Settles O24, by the ONSETs of the waking strings in the order of the step. -/
theorem stringsWakeThePart : Obligations.StringsWakeThePart := by
  intro order s released
  refine ⟨fun lowest dozes owed sound waking least => ⟨_, exec_wakeByString released order, ?_⟩,
    fun dozes owed none => (exec_wakeByString released order).trans
      (congrArg _ (wakeByString_dozesOn dozes owed none)),
    fun notOwed => (exec_wakeByString released order).trans (congrArg _ (wakeByString_of_not_owed notOwed))⟩
  rw [wakeByString_wakes dozes owed waking least]
  set w := s.roused lowest with w_def
  have channel (n : Str) := State.roused_channel lowest s n
  rw [← w_def] at channel
  have form (n : Str) := (sound.doze dozes).2 n
  have calm (n : Str) : (w.channel n).voice.state = .quiet ∨ (w.channel n).voice.state = .muted := by
    rw [channel]; exact (form n).voice
  have lawful (n : Str) : (w.channel n).voice.Lawful := by rw [channel]; exact (sound.channels n).voice
  have judged (n : Str) : (w.channel n).detector.judgementDue = false := by rw [channel]; exact (form n).detector.2.1
  obtain ⟨modes, mute⟩ := returnToRun_registers (.string lowest) s
  have beyond := returnToRun_beyond (.string lowest) s
  set l := (Str.inOrder order).filter (wakes s) with l_def
  have outside : Outside w (forStrings wakeString l w) :=
    forStrings_outside wakeString (fun n u => (wakeString_onlyString n u).outside) l w
  obtain ⟨queue, backlog⟩ := forStrings_induct (P := fun u => u.queue = w.queue ∧ u.backlog = w.backlog) wakeString
    (fun n u same => ⟨(wakeString_queue n u).1.trans same.1, (wakeString_queue n u).2.trans same.2⟩) l w ⟨rfl, rfl⟩
  refine ⟨outside.modes.trans modes,
    offered_congr (returnToRun_offered (.string lowest) s) rfl rfl queue backlog outside.globals,
    outside.globals.trans beyond.globals, outside.lock.trans beyond.lock, outside.mute.trans mute,
    outside.link.trans beyond.link, outside.timebase.trans beyond.timebase, fun n => ?_⟩
  dsimp only
  have woken (waking : Waking s n) := forStrings_wakeString_passes calm lawful judged (order := order) waking
    (fun m => by rw [channel]) (by rw [channel])
  refine ⟨fun asleep => ?_, fun waking quiet passes => ?_, fun waking quiet fails => ?_, fun waking muted => ?_⟩
  · rw [forStrings_others wakeString_onlyString (fun mem => asleep ((wakes_iff s n).mp (List.mem_filter.mp mem).2)),
      channel]
  all_goals
    obtain ⟨pass, taken, tested⟩ := woken waking
    rw [taken, channel]
  · rw [tested.mpr passes]
    exact if_pos quiet
  · rw [Bool.eq_false_of_not_eq_true (mt tested.mp fails)]
    exact if_pos quiet
  · exact if_neg (by simp [muted])

end Sys2Proof.Machine
end

section
/-! A velocity completion does not look at the link, nor leave it other than it was: the note that it may begin is the
same whatever the link holds (R54, R64, R70, R71). -/

namespace Sys2Proof.Machine

/-- The part with this link. -/
def State.linked (l : Link) (s : State) : State := { s with link := l }

section
variable (l : Link) (s : State)

@[simp] theorem State.linked_channel (n : Str) : (s.linked l).channel n = s.channel n := rfl
@[simp] theorem State.linked_mod (n : Str) (f : Channel → Channel) : (s.linked l).mod n f = (s.mod n f).linked l := rfl

theorem activateBacklog_linked : activateBacklog (s.linked l) = (activateBacklog s).linked l := by
  simp only [activateBacklog, apply_ite (State.linked l)]
  rfl

theorem deactivateBacklog_linked : deactivateBacklog (s.linked l) = (deactivateBacklog s).linked l := by
  simp only [deactivateBacklog, apply_ite (State.linked l), ← activateBacklog_linked]
  rfl

theorem updateBacklog_linked : updateBacklog (s.linked l) = (updateBacklog s).linked l := by
  simp only [updateBacklog, apply_ite (State.linked l), ← activateBacklog_linked, ← deactivateBacklog_linked]
  rfl

theorem offerNoteOn_linked (n : Str) (base velocity : Nat) (offset : Int) (flag : NoteFlag) :
    offerNoteOn n base velocity offset flag (s.linked l) = (offerNoteOn n base velocity offset flag s).linked l := by
  simp only [offerNoteOn, apply_ite (State.linked l), ← updateBacklog_linked]
  rfl

theorem beginNote_linked (n : Str) (base : Nat) (pitch : Option Nat) (offset : Int) (kind : StartKind)
    (flag : NoteFlag) (velocity : Nat) : beginNote n base pitch offset kind flag velocity (s.linked l)
      = (beginNote n base pitch offset kind flag velocity s).linked l := by
  rw [beginNote, offerNoteOn_linked]
  rfl

theorem beginPitched_linked (n : Str) (pitch : Nat) (kind : StartKind) (velocity : Nat) :
    beginPitched n pitch kind velocity (s.linked l) = (beginPitched n pitch kind velocity s).linked l := by
  rw [beginPitched, beginNote_linked]
  rfl

theorem beginUnpitched_linked (n : Str) (velocity : Nat) :
    beginUnpitched n velocity (s.linked l) = (beginUnpitched n velocity s).linked l := by
  rw [beginUnpitched, beginNote_linked]
  rfl

theorem tryBegin_linked (n : Str) : tryBegin n (s.linked l) = (tryBegin n s).linked l := by
  unfold tryBegin
  cases velocity : (s.channel n).voice.velocity with
  | none => simp only [State.linked_channel, velocity, ite_self]
  | some value =>
    cases known : (s.channel n).voice.currentPitch with
    | none =>
      simp only [State.linked_channel, velocity, known, apply_ite (State.linked l), beginUnpitched_linked]
    | some pitch =>
      simp only [State.linked_channel, velocity, known, apply_ite (State.linked l), beginPitched_linked]

theorem voiceCompletion_linked (n : Str) (value : Nat) :
    voiceCompletion n value (s.linked l) = (voiceCompletion n value s).linked l := by
  simp only [voiceCompletion, apply_ite (State.linked l), ← tryBegin_linked]
  rfl

theorem takeCompletion_linked (n : Str) : takeCompletion n (s.linked l) = (takeCompletion n s).linked l := by
  unfold takeCompletion
  cases completed : (s.channel n).detector.completion with
  | none => simp only [State.linked_channel, completed]
  | some value =>
    simp only [State.linked_channel, completed, modDetector, State.linked_mod, voiceCompletion_linked]

/-- What is made on strings one after another is the same whatever the link holds, where each is. -/
theorem forStrings_linked {op : Str → State → State} (each : ∀ n s, op n (s.linked l) = (op n s).linked l)
    (strings : List Str) : forStrings op strings (s.linked l) = (forStrings op strings s).linked l := by
  induction strings generalizing s with
  | nil => rfl
  | cons n rest ih => rw [forStrings, each, ih, forStrings]

end

end Sys2Proof.Machine
end

section
/-! What a doze entry leaves of a string (R15, R38, R57, R94, R123, R144). -/

namespace Sys2Proof.Machine

/-- The voice with its note, if any, ended toward the host. -/
def Channel.unreported (c : Channel) : Channel := c.modVoice fun v => { v with reported := false, fix := false }

theorem Channel.unreported_eq_self {c : Channel} (lawful : c.voice.Lawful) (notSounding : c.voice.state ≠ .sounding) :
    c.unreported = c := by
  obtain ⟨unreported, unfixed⟩ := lawful.unreported notSounding
  rw [Channel.unreported, modVoice, Voice.unreported_eq_self unreported unfixed]

/-- The string as a doze entry leaves it: its gate CLOSED, its blocks at rest, and its voice, if neither QUIET nor
MUTED, QUIET (R94, R144). -/
def Channel.dozed (damped : Bool) (c : Channel) : Channel :=
  if c.voice.state = .quiet ∨ c.voice.state = .muted then c.dozing.dozeBlocks
  else (c.unreported.dozing.dozeBlocks).toQuiet damped

/-- A detector that a doze entry has forced CLOSED has nothing for a commit to clear (R56, R57). -/
theorem Detector.commit_doze (new : Profile) (d : Detector) : d.doze.commit new = d.doze := by
  unfold commit
  split <;> rfl

theorem Channel.toQuiet_staged (c : Channel) (damped : Bool) : (c.toQuiet damped).staged = c.staged := by
  unfold toQuiet
  split
  · exact commit_staged (c.entering .quiet) damped
  · rfl

theorem Channel.dozed_detector (damped : Bool) (c : Channel) : (c.dozed damped).detector = c.detector.doze := by
  unfold dozed toQuiet
  split
  · rfl
  · split
    · rw [commit_detector]; exact Detector.commit_doze ..
    · rfl

theorem Channel.dozed_staged (damped : Bool) (c : Channel) : (c.dozed damped).staged = c.staged := by
  unfold dozed
  split
  · rfl
  · exact toQuiet_staged ..

section
variable {c : Channel} {damped : Bool}

theorem Channel.dozed_voice_of_muted (muted : c.voice.state = .muted) (damped : Bool) :
    (c.dozed damped).voice = c.voice := by
  rw [dozed, if_pos (.inr muted)]
  rfl

/-- A voice that is not MUTED is QUIET after a doze entry, under its serial (R65, R94). -/
theorem Channel.dozed_voice (sound : c.Sound .run damped) (notMuted : c.voice.state ≠ .muted) :
    (c.dozed damped).voice = { Voice.reset with serial := c.voice.serial } := by
  have lawful := sound.lawful.voice
  unfold dozed
  split
  · next calm =>
    have quiet := calm.resolve_right notMuted
    have bare := lawful.bare (.inl quiet)
    rw [quiet, lawful.entering_bare (by simp [quiet]) notMuted] at bare
    exact bare
  · next active =>
    have playing := sound.playing_of_active fun quiet => active (.inl quiet)
    exact toQuiet_voice (c := c.unreported.dozing.dozeBlocks) playing.enabled
      (lawful.ended_entering notMuted .quiet) damped

theorem Channel.dozed_serial (sound : c.Sound .run damped) : (c.dozed damped).voice.serial = c.voice.serial := by
  by_cases muted : c.voice.state = .muted
  · rw [dozed_voice_of_muted muted]
  · rw [dozed_voice sound muted]

/-- With no profile to commit, a doze entry leaves the settings, the markers, the latest estimate and the lane, its
crossing path apart (R15). -/
theorem Channel.dozed_kept (kept : c.pendingFlag = false ∨ c.voice.state = .muted) (damped : Bool) :
    (c.dozed damped).lane = c.lane.clearCrossing ∧ (c.dozed damped).capture.lastEstimate = c.capture.lastEstimate
      ∧ (c.dozed damped).active = c.active ∧ (c.dozed damped).pendingFlag = c.pendingFlag
      ∧ (c.dozed damped).clip = c.clip ∧ (c.dozed damped).openMarks = c.openMarks := by
  unfold dozed
  split
  · exact ⟨rfl, rfl, rfl, rfl, rfl, rfl⟩
  · next active =>
    have none : c.unreported.dozing.dozeBlocks.pendingFlag = false :=
      kept.resolve_right fun muted => active (.inr muted)
    rw [toQuiet_kept none]
    exact ⟨rfl, rfl, rfl, rfl, rfl, rfl⟩

/-- A pending profile commits where the voice enters QUIET, and clears the markers where it disables the string
(R144, R159). -/
theorem Channel.dozed_commits (sound : c.Sound .run damped) (pending : c.pendingFlag = true)
    (notMuted : c.voice.state ≠ .muted) :
    (c.dozed damped).active = c.staged ∧ (c.dozed damped).pendingFlag = false
      ∧ (c.staged.enabled = true → (c.dozed damped).clip = c.clip ∧ (c.dozed damped).openMarks = c.openMarks)
      ∧ (c.staged.enabled = false → (c.dozed damped).clip = .clear ∧ (c.dozed damped).openMarks = .clear) := by
  have notQuiet := sound.pending nofun pending
  have enabled := (sound.playing_of_active notQuiet).enabled
  rw [dozed, if_neg (not_or_intro notQuiet notMuted), toQuiet_commits (c := c.unreported.dozing.dozeBlocks) pending]
  obtain ⟨active, cleared⟩ := commit_active (c.unreported.dozing.dozeBlocks.entering .quiet) damped
  refine ⟨active, cleared, fun stays => ?_, fun disables => ?_⟩
  · rw [commit_of_enabled (c := c.unreported.dozing.dozeBlocks.entering .quiet) enabled stays]
    exact ⟨rfl, rfl⟩
  · exact (commit_of_disabling (c := c.unreported.dozing.dozeBlocks.entering .quiet) disables damped).2

/-- The markers stand through a doze entry but where a commit disables the string (R15, R159). -/
theorem Channel.dozed_marks (sound : c.Sound .run damped)
    (stands : c.pendingFlag = false ∨ c.voice.state = .muted ∨ c.staged.enabled = true) :
    (c.dozed damped).clip = c.clip ∧ (c.dozed damped).openMarks = c.openMarks := by
  by_cases still : c.pendingFlag = false ∨ c.voice.state = .muted
  · obtain ⟨-, -, -, -, marks⟩ := dozed_kept still damped
    exact marks
  · obtain ⟨pending, notMuted⟩ := not_or.mp still
    obtain ⟨-, -, stays, -⟩ := dozed_commits sound (Bool.eq_true_of_not_eq_false pending) notMuted
    exact stays ((or_assoc.mpr stands).resolve_left still)

end

/-! ## The voice of a string at a doze entry (R94) -/

section
variable {n : Str} {s : State}

theorem dozeVoice_of_calm (calm : (s.channel n).voice.state = .quiet ∨ (s.channel n).voice.state = .muted) :
    dozeVoice n s = s := by
  rcases calm with quiet | muted
  · simp [dozeVoice, quiet]
  · simp [dozeVoice, muted]

/-- A voice that is neither QUIET nor MUTED offers its NOTE-OFF, if it has one to offer, and enters QUIET. -/
theorem dozeVoice_of_active (lawful : (s.channel n).voice.Lawful)
    (active : ¬((s.channel n).voice.state = .quiet ∨ (s.channel n).voice.state = .muted)) :
    dozeVoice n s = enterQuiet n (offerNoteOff n .doze s) := by
  have silent (notSounding : (s.channel n).voice.state ≠ .sounding) : offerNoteOff n .doze s = s :=
    offerNoteOff_unreported (lawful.unreported notSounding).1 .doze
  cases state : (s.channel n).voice.state with
  | sounding => simp only [dozeVoice, state]
  | suspect | acquiring | silent => rw [silent (by simp [state])]; simp only [dozeVoice, state]
  | quiet => exact absurd (.inl state) active
  | muted => exact absurd (.inr state) active

theorem dozeVoice_channel {c : Channel} (channel : s.channel n = c.dozing) (lawful : c.voice.Lawful) :
    ((dozeVoice n s).channel n).dozeBlocks = c.dozed s.mute.inForce := by
  have voice : (s.channel n).voice = c.voice := by rw [channel]; rfl
  unfold Channel.dozed
  split
  · next calm => rw [dozeVoice_of_calm (voice ▸ calm), channel]
  · next active =>
    rw [dozeVoice_of_active (voice ▸ lawful) (voice ▸ active), enterQuiet_channel,
      offerNoteOff_channel (voice ▸ lawful), (offerNoteOff_onlyString ..).outside.mute, channel,
      Channel.toQuiet_dozeBlocks]
    rfl

end

end Sys2Proof.Machine
end

section
/-! What a doze entry leaves of the queue (R94, R127, R129, R131, R136, R176), and its statement. -/

namespace Sys2Proof.Machine

/-! ## The room for NOTICE(DOZING) (R127, R129, R131, R136) -/

/-- What a queue needs for the notes that end in it to be accounted: its laws, those of BACKLOG's markers, and a
high-water setting below its capacity. -/
structure Accounted (s : State) : Prop where
  ledger : Ledger s
  markers : ConditionLaw s
  highWater : s.globals.highWater ≤ 31

theorem State.hasRoom_one (s : State) : s.hasRoom 1 = decide (s.queue.commitment ≤ 31) :=
  decide_eq_decide.mpr Nat.succ_le_succ_iff

section
variable {n : Str} {s : State} {reason : OffReason}

/-- A NOTE-OFF that gives back the slot of a PITCH-FIX leaves room, whatever BACKLOG reports behind it. -/
theorem offerNoteOff_fix_room (accounted : Accounted s) (reported : (s.channel n).voice.reported = true)
    (fix : (s.channel n).voice.fix = true) : (offerNoteOff n reason s).hasRoom 1 = true := by
  set v := ((s.mod n (.modVoice fun v => { v with reported := false, fix := false })).unreserve 2).append
    (.noteOff n (s.channel n).voice.serial reason) with v_def
  have offered : offerNoteOff n reason s = updateBacklog v := by
    simp only [offerNoteOff, reported, fix, if_true]; rfl
  have commitment : v.queue.commitment + 1 = s.queue.commitment := by
    have held : 2 ≤ s.queue.reserved := by
      have slots := s.slots_le n
      rw [Voice.slots, reported, fix] at slots
      exact accounted.ledger.queue.account ▸ slots
    change (s.queue.records ++ [_]).length + (s.queue.reserved - 2) + 1 = s.queue.records.length + s.queue.reserved
    rw [List.length_append, List.length_singleton]
    omega
  have capacity : s.queue.commitment ≤ 32 := accounted.ledger.queue.capacity
  have highWater := accounted.highWater
  have law : s.backlog.active = decide (s.globals.highWater ≤ s.queue.commitment) := accounted.ledger.backlog
  rw [offered, State.hasRoom_one, decide_eq_true_iff]
  by_cases same : BacklogLaw v
  · rw [updateBacklog_of_law same]
    omega
  · have fell : s.queue.commitment ≤ 31 := by
      refine Nat.le_of_lt_succ (Nat.lt_of_le_of_ne capacity fun full => same ?_)
      refine law.trans (decide_eq_decide.mpr (iff_of_true ?_ ?_))
      · omega
      · change s.globals.highWater ≤ v.queue.commitment
        omega
    have within := (updateBacklog_demand (s := v) accounted.markers.2).2
    have bound := v.demand_bounds.2
    have reach := (updateBacklog v).demand_bounds.1
    omega

/-- The end of a note leaves room for one record more where there was room, or where it gives back the slot of a
PITCH-FIX. -/
theorem offerNoteOff_room (accounted : Accounted s) (lawful : (s.channel n).voice.Lawful) (reason : OffReason) :
    (offerNoteOff n reason s).hasRoom 1 = (s.hasRoom 1 || (s.channel n).voice.fix) := by
  cases fix : (s.channel n).voice.fix
  · rw [Bool.or_false]
    cases reported : (s.channel n).voice.reported
    · rw [offerNoteOff_unreported reported]
    · have commitment : (offerNoteOff n reason s).queue.commitment = s.queue.commitment := by
        have held : 1 ≤ s.queue.reserved := by
          have slots := s.slots_le n
          rw [Voice.slots, reported, fix] at slots
          exact accounted.ledger.queue.account ▸ slots
        rw [(offerNoteOff_closed fix accounted.ledger.backlog (fun _ => held) reason).reported reported]
        change (s.queue.records ++ [_]).length + (s.queue.reserved - 1) = s.queue.records.length + s.queue.reserved
        rw [List.length_append, List.length_singleton]
        omega
      rw [State.hasRoom_one, State.hasRoom_one, commitment]
  · rw [Bool.or_true]
    exact offerNoteOff_fix_room accounted (lawful.fix fix) fix

/-! ## The notes that end at a doze entry -/

/-- The end of a note toward the host, whatever becomes of its string then. -/
theorem offerNoteOff_notesEnded (lawful : (s.channel n).voice.Lawful) (reason : OffReason) (f : Channel → Channel) :
    NotesEnded reason [n] s ((offerNoteOff n reason s).mod n f) := by
  obtain ⟨kept, reserved, gateOpen, dropped⟩ := offerNoteOff_account lawful reason
  refine ⟨?_, ?_, gateOpen, dropped, fun law => offerNoteOff_backlog n reason law⟩
  · rw [State.offRecords_single]; exact kept
  · rw [State.slotsOf_single]; exact reserved

theorem Voice.Lawful.unreported_of_calm {v : Voice} (l : v.Lawful) (calm : v.state = .quiet ∨ v.state = .muted) :
    v.reported = false ∧ v.fix = false :=
  l.unreported (by rcases calm with quiet | muted <;> simp [*])

theorem dozeVoice_notesEnded (lawful : (s.channel n).voice.Lawful) : NotesEnded .doze [n] s (dozeVoice n s) := by
  by_cases calm : (s.channel n).voice.state = .quiet ∨ (s.channel n).voice.state = .muted
  · obtain ⟨unreported, unfixed⟩ := lawful.unreported_of_calm calm
    rw [dozeVoice_of_calm calm]
    exact .of_unreported unreported unfixed rfl rfl rfl
  · rw [dozeVoice_of_active lawful calm, enterQuiet_eq]
    exact offerNoteOff_notesEnded lawful .doze _

theorem dozeVoice_room (accounted : Accounted s) (lawful : (s.channel n).voice.Lawful) :
    (dozeVoice n s).hasRoom 1 = (s.hasRoom 1 || (s.channel n).voice.fix) := by
  by_cases calm : (s.channel n).voice.state = .quiet ∨ (s.channel n).voice.state = .muted
  · rw [dozeVoice_of_calm calm, (lawful.unreported_of_calm calm).2, Bool.or_false]
  · rw [dozeVoice_of_active lawful calm, enterQuiet_eq]
    exact offerNoteOff_room accounted lawful .doze

theorem dozeVoice_accounted (accounted : Accounted s) (lawful : (s.channel n).voice.Lawful) :
    Accounted (dozeVoice n s) where
  ledger := by
    by_cases calm : (s.channel n).voice.state = .quiet ∨ (s.channel n).voice.state = .muted
    · rw [dozeVoice_of_calm calm]
      exact accounted.ledger
    · rw [dozeVoice_of_active lawful calm]
      exact (enterQuiet_tallied ⟨rfl, accounted.ledger.offerNoteOff n .doze⟩ n).ledger
  markers := (dozeVoice_made n s).conditionLaw accounted.markers
  highWater := by rw [(dozeVoice_onlyString n s).outside.globals]; exact accounted.highWater

end

/-- The notes of all strings end in string order, and leave room for one record more where there was room, or where
one of them gives back the slot of a PITCH-FIX. -/
theorem forStrings_dozeVoice {l : List Str} (nodup : l.Nodup) {s : State} (accounted : Accounted s)
    (lawful : ∀ n ∈ l, (s.channel n).voice.Lawful) :
    NotesEnded .doze l s (forStrings dozeVoice l s)
      ∧ (forStrings dozeVoice l s).hasRoom 1 = (s.hasRoom 1 || l.any fun n => (s.channel n).voice.fix) := by
  induction l generalizing s with
  | nil => exact ⟨.nil .doze s, (Bool.or_false _).symm⟩
  | cons m l ih =>
    obtain ⟨fresh, nodup⟩ := List.nodup_cons.mp nodup
    have own := lawful m List.mem_cons_self
    have others (k : Str) (member : k ∈ l) : (dozeVoice m s).channel k = s.channel k :=
      (dozeVoice_onlyString m s).others k fun same => fresh (same ▸ member)
    obtain ⟨ended, room⟩ := ih nodup (dozeVoice_accounted accounted own) fun k member => by
      rw [others k member]; exact lawful k (List.mem_cons_of_mem _ member)
    refine ⟨(dozeVoice_notesEnded own).cons ended others, ?_⟩
    have fixes : (l.any fun k => ((dozeVoice m s).channel k).voice.fix) = l.any fun k => (s.channel k).voice.fix := by
      rw [Bool.eq_iff_iff, List.any_eq_true, List.any_eq_true]
      exact exists_congr fun k => and_congr_right fun member => by rw [others k member]
    rw [forStrings, room, dozeVoice_room accounted own, fixes, List.any_cons, Bool.or_assoc]

/-! ## The doze entry -/

/-- The part with the velocities of its frame end handed to the voices (R55, R57; log 38). -/
def State.judged (s : State) : State := forStrings takeCompletion Str.all s

/-- The part in DOZE with every gate CLOSED, before its voices enter QUIET. -/
def State.dozeClosed (u : State) : State :=
  { u with modes := { u.modes with mode := .doze, idle := 0, idleDue := false, wakeDue := false } }.modAll
    Channel.dozing

/-- The part as NOTICE(DOZING) finds it. -/
def State.dozeVoiced (u : State) : State :=
  (forStrings dozeVoice Str.all u.dozeClosed).modAll Channel.dozeBlocks

theorem enterDoze_eq (s : State) : enterDoze s = offerPlain (.notice .dozing) s.judged.dozeVoiced := rfl

section
variable {s : State}

theorem State.judged_outside (s : State) : Outside s s.judged :=
  forStrings_outside takeCompletion (fun n t => (takeCompletion_onlyString n t).outside) Str.all s

theorem State.judged_steady (steady : Steady s) : Steady s.judged :=
  forStrings_induct takeCompletion (fun n _ steady => takeCompletion_steady steady n) Str.all s steady

theorem State.judged_conditionLaw (law : ConditionLaw s) : ConditionLaw s.judged :=
  (forStrings_made takeCompletion_made Str.all s).conditionLaw law

/-- Where no velocity waits to be handed over, nothing is. -/
theorem State.judged_of_none (none : ∀ n, (s.channel n).detector.completion = none) : s.judged = s :=
  forStrings_induct (P := fun t => t = s) takeCompletion
    (fun n _ same => by rw [same]; exact takeCompletion_of_none (none n)) Str.all s rfl

theorem State.judged_taken (rest : List Frame) (s : State) : (s.taken rest).judged = s.judged.taken rest := by
  have linked := forStrings_linked { s.link with buffer := rest } s
    (fun n t => takeCompletion_linked { s.link with buffer := rest } t n) Str.all
  refine linked.trans ?_
  rw [State.taken, s.judged_outside.link]
  rfl

/-- The VELOCITY_COMPLETIONs of the strings, taken by their steps. -/
theorem runs_judged (released : s.modes.resetPinLow = false) : Runs (Str.all.map .velocityCompletion) s s.judged :=
  (runs_strings (steps := fun n => [.velocityCompletion n]) released
    (fun _ _ released => runs_cons (op := takeCompletion _) (fun _ => rfl) released rfl) takeCompletion_onlyString
    Str.all).1

variable {u : State}

theorem State.dozeClosed_channel (u : State) (n : Str) : u.dozeClosed.channel n = (u.channel n).dozing :=
  State.channel_modAll ..

theorem State.dozeClosed_accounted (steady : Steady u) (law : ConditionLaw u) : Accounted u.dozeClosed where
  ledger := (steady.ledger.modAll (f := Channel.dozing) fun _ => .refl _).of_strings (fun _ => .refl _) rfl rfl rfl rfl
  markers := ⟨fun n => by rw [u.dozeClosed_channel]; exact law.1 n, law.2⟩
  highWater := steady.shared.globals.highWater.2

/-- Each string after a doze entry. -/
theorem State.dozeVoiced_channel (lawful : ∀ n, (u.channel n).voice.Lawful) (n : Str) :
    u.dozeVoiced.channel n = (u.channel n).dozed u.mute.inForce := by
  obtain ⟨v, outside, same, taken⟩ := forStrings_string dozeVoice_onlyString Str.all_nodup n.mem_all u.dozeClosed
  rw [dozeVoiced, State.channel_modAll, taken, dozeVoice_channel (same.trans (u.dozeClosed_channel n)) (lawful n),
    outside.mute]
  rfl

/-- What the notes that a doze entry ends leave of the queue. -/
theorem State.dozeVoiced_queue (steady : Steady u) (law : ConditionLaw u) :
    NotesEnded .doze Str.all u u.dozeVoiced
      ∧ (u.dozeVoiced.hasRoom 1 = true ↔ u.hasRoom 1 = true ∨ ∃ n, (u.channel n).voice.fix = true) := by
  obtain ⟨⟨kept, reserved, gateOpen, dropped, backlog⟩, room⟩ := forStrings_dozeVoice Str.all_nodup
    (u.dozeClosed_accounted steady law) fun n _ => by
      rw [u.dozeClosed_channel]; exact (steady.sound n).lawful.voice
  have records : u.dozeClosed.offRecords .doze Str.all = u.offRecords .doze Str.all := by
    simp only [State.offRecords, u.dozeClosed_channel]; rfl
  have slots : u.dozeClosed.slotsOf Str.all = u.slotsOf Str.all := by
    simp only [State.slotsOf, u.dozeClosed_channel]; rfl
  refine ⟨⟨kept.trans (congrArg _ records), reserved.trans (congrArg _ slots), gateOpen, dropped, backlog⟩, ?_⟩
  refine (Bool.eq_iff_iff.mp room).trans ?_
  simp only [u.dozeClosed_channel, Bool.or_eq_true, List.any_eq_true, Str.mem_all, true_and]
  rfl

/-- The records that join the queue at a doze entry, and the slots given back. -/
theorem enterDoze_queue (steady : Steady s) (law : ConditionLaw s) :
    let u := s.judged
    let t := enterDoze s
    let before := u.keptRecords ++ u.offRecords .doze Str.all
    let room := u.hasRoom 1 = true ∨ ∃ n, (u.channel n).voice.fix = true
    (room → t.keptRecords = before ++ [.notice .dozing])
      ∧ (¬room → t.keptRecords = before ∧ t.queue.dropped = true)
      ∧ t.queue.reserved = u.queue.reserved - u.slotsHeld ∧ t.queue.gateOpen = u.queue.gateOpen ∧ BacklogLaw t := by
  have judged := State.judged_steady steady
  obtain ⟨ended, room⟩ := State.dozeVoiced_queue judged (State.judged_conditionLaw law)
  obtain ⟨kept, reserved, gateOpen, refused, backlog⟩ :=
    offerPlain_account (r := .notice .dozing) rfl s.judged.dozeVoiced
  dsimp only
  rw [enterDoze_eq, kept, ended.kept]
  refine ⟨fun free => ?_, fun full => ?_, ?_, gateOpen.trans ended.gateOpen,
    backlog (ended.backlog judged.ledger.backlog)⟩
  · rw [if_pos (room.mpr free)]
  · have none := mt room.mp full
    rw [if_neg none, List.append_nil]
    exact ⟨rfl, refused (Bool.eq_false_of_not_eq_true none)⟩
  · rw [← State.slotsOf_all]
    exact reserved.trans ended.reserved

theorem State.judged_sound (steady : Steady s) (runs : s.modes.mode = .run) (n : Str) :
    (s.judged.channel n).Sound .run s.judged.mute.inForce := by
  have sound := (judged_steady steady).sound n
  rwa [s.judged_outside.modes, runs] at sound

theorem enterDoze_channel (steady : Steady s) (runs : s.modes.mode = .run) (n : Str) :
    (enterDoze s).channel n = (s.judged.channel n).dozed s.judged.mute.inForce := by
  rw [enterDoze_eq, offerPlain_channel,
    State.dozeVoiced_channel fun n => (State.judged_sound steady runs n).lawful.voice]

/-- The doze entry from the state that the velocities' hand-over leaves. -/
theorem enterDoze_entered (steady : Steady s) (law : ConditionLaw s) (runs : s.modes.mode = .run) :
    DozeEntered s.judged (enterDoze s) := by
  have outside := s.judged_outside
  have beyond := enterDoze_beyond s
  obtain ⟨modes, mute⟩ := enterDoze_registers s
  refine ⟨by rw [modes, outside.modes], beyond.globals.trans outside.globals.symm,
    beyond.lock.trans outside.lock.symm, mute.trans outside.mute.symm, beyond.timebase.trans outside.timebase.symm,
    beyond.frameSamples.trans outside.frameSamples.symm, enterDoze_queue steady law, fun n => ?_⟩
  have sound := State.judged_sound steady runs n
  have form : ((enterDoze s).channel n).DozeForm :=
    ((enterDoze_steady steady runs).sound n).doze (by rw [modes])
  rw [enterDoze_channel steady runs] at form ⊢
  rw [Channel.dozed_detector, Channel.dozed_staged]
  refine ⟨form, Channel.dozed_serial sound, rfl, rfl, rfl, rfl, rfl, rfl,
    fun muted => Channel.dozed_voice_of_muted muted _, Channel.dozed_voice sound, fun still => ?_,
    fun pending notMuted => ?_, Channel.dozed_marks sound, fun pending notMuted disables => ?_⟩
  · obtain ⟨lane, lastEstimate, active, pendingFlag, -⟩ := Channel.dozed_kept still s.judged.mute.inForce
    exact ⟨lane, lastEstimate, active, pendingFlag⟩
  · obtain ⟨active, cleared, -⟩ := Channel.dozed_commits sound pending notMuted
    exact ⟨active, cleared⟩
  · obtain ⟨-, -, -, clears⟩ := Channel.dozed_commits sound pending notMuted
    exact clears disables

/-- A doze entry does not look at the link, and a reply changes nothing that it is judged by. -/
theorem dozeEntered_replied {rest : List Frame} {t : State} (entered : DozeEntered (u.taken rest) t) (kind : Byte)
    (outcome : ReplyOutcome) (data : List Byte) : DozeEntered u (reply kind outcome data t) := entered

/-! ## DOZE and IDLE_DOZE -/

theorem idleDoze_of_due (runs : s.modes.mode = .run) (due : s.modes.idleDue = true) : idleDoze s = enterDoze s :=
  if_pos (by simp [runs, due])

theorem idleDoze_of_not_due (notDue : s.modes.mode ≠ .run ∨ s.modes.idleDue = false) : idleDoze s = s := by
  rcases notDue with other | early
  · simp [idleDoze, other]
  · simp [idleDoze, early]

theorem exec_idleDoze (released : s.modes.resetPinLow = false) : exec .idleDoze s = .next (idleDoze s) :=
  congrArg _ (State.live_of_released released _)

end

/-- Settles O22, by the doze entry from the state in which the velocities of the frame end have been taken. -/
theorem dozeIsEntered : Obligations.DozeIsEntered := by
  intro operand rest s
  refine ⟨fun awaits runs sound => ?doze, fun awaits dozes => ?again, fun awaits started notDoze notWake => ?refused,
    fun released runs due sound => ?idle,
    fun notDue => congrArg _ (State.live_of_stands (idleDoze_of_not_due notDue))⟩
  case doze =>
    have steady := taken_steady sound.steady awaits.buffer
    have entered := enterDoze_entered (s := s.taken rest) steady sound.conditions runs
    rw [State.judged_taken] at entered
    refine ⟨s.judged, _, runs_judged awaits.released, dozeWake_handled awaits (by simp [runs]) (by decide), ?_,
      State.judged_of_none, ?_⟩
    all_goals rw [dozeWakeRule_doze, if_pos (show (s.taken rest).modes.mode = .run from runs)]
    · exact dozeEntered_replied entered ..
    · exact ⟨_, rfl, rfl, rfl⟩
  case again =>
    refine (dozeWake_handled awaits (by simp [dozes]) (by decide)).trans (congrArg _ ?_)
    rw [dozeWakeRule_doze, if_neg (by simp [State.taken, dozes])]
  case refused =>
    exact (dozeWake_handled awaits started notWake).trans
      (congrArg _ (dozeWakeRule_badOperand notDoze notWake ..))
  case idle =>
    have entered := enterDoze_entered sound.steady sound.conditions runs
    exact ⟨s.judged, enterDoze s, runs_judged released,
      (exec_idleDoze released).trans (congrArg _ (idleDoze_of_due runs due)), entered, (enterDoze_beyond s).link,
      State.judged_of_none⟩

end Sys2Proof.Machine
end

section
/-! One step of the part: which step is taken (log 6), and what of the part no step reaches, the queue of steps
itself (log 14). Each operation's lemma says that it leaves the queue as it stands. -/

namespace Sys2Proof.Machine

/-! ## The front of the queue -/

theorem step_of_front {i : Instr} {rest : List Instr} {s : State} (front : s.pending = i :: rest) :
    step s = exec i { s with pending := rest } := by
  unfold step
  rw [front]

theorem step_of_empty {s : State} (empty : s.pending = []) : step s = .next s := by
  unfold step
  rw [empty]

/-- Settles O1, by the two forms of the queue. -/
theorem stepTakesTheFront : Obligations.StepTakesTheFront :=
  ⟨fun _ _ _ front => step_of_front front, fun _ empty => step_of_empty empty⟩

/-! ## Operations on the strings -/

theorem OnlyString.pending {n : Str} {s t : State} (only : OnlyString n s t) : t.pending = s.pending :=
  only.outside.pending

theorem forStrings_pending {op : Str → State → State} (keeps : ∀ n t, (op n t).pending = t.pending) (l : List Str)
    (s : State) : (forStrings op l s).pending = s.pending :=
  forStrings_induct (P := fun t => t.pending = s.pending) op (fun n t kept => (keeps n t).trans kept) l s rfl

@[simp] theorem updateBacklog_pending (s : State) : (updateBacklog s).pending = s.pending :=
  (updateBacklog_queueOnly s).outside.pending

@[simp] theorem offerPlain_pending (r : Record) (s : State) : (offerPlain r s).pending = s.pending :=
  (offerPlain_queueOnly r s).outside.pending

@[simp] theorem reply_pending (kind : Byte) (outcome : ReplyOutcome) (data : List Byte) (s : State) :
    (reply kind outcome data s).pending = s.pending := rfl

/-! ## The damp mute (R89, R91) -/

@[simp] theorem setLatch_pending (latched : Bool) (s : State) : (setLatch latched s).pending = s.pending := rfl

theorem dampComes_pending (s : State) : (dampComes s).pending = s.pending :=
  (forEnabled_outside (fun n t => (addCause_onlyString .damp n t).outside) _).pending.trans (offerPlain_pending ..)

theorem dampEnds_pending (s : State) : (dampEnds s).pending = s.pending :=
  (offerPlain_pending ..).trans (forEnabled_outside (fun n t => (removeCause_onlyString .damp n t).outside) _).pending

@[simp] theorem setDampMute_pending (wanted : Bool) (s : State) : (setDampMute wanted s).pending = s.pending := by
  unfold setDampMute
  split
  · rfl
  · split
    · exact dampComes_pending s
    · exact dampEnds_pending s

@[simp] theorem dampAsserted_pending (s : State) : (dampAsserted s).pending = s.pending := by
  unfold dampAsserted
  split
  · cases damp : s.globals.dampMode <;> simp [damp]
  · rfl

@[simp] theorem dampDeasserted_pending (s : State) : (dampDeasserted s).pending = s.pending := by
  unfold dampDeasserted
  split
  · cases damp : s.globals.dampMode <;> simp [damp]
  · rfl

theorem changeDampMode_pending (new : DampMode) (s : State) : (changeDampMode new s).pending = s.pending := by
  unfold changeDampMode
  split
  · rfl
  · cases new with
    | off | follow => simp
    | latch => dsimp only; split <;> simp

/-! ## The modes (R173, R176, R177) -/

theorem enterDoze_pending (s : State) : (enterDoze s).pending = s.pending := by
  unfold enterDoze
  have judged := forStrings_pending (fun n t => (takeCompletion_onlyString n t).pending) Str.all s
  generalize forStrings takeCompletion Str.all s = t at judged
  simp [forStrings_pending fun n t => (dozeVoice_onlyString n t).pending, judged]

@[simp] theorem idleDoze_pending (s : State) : (idleDoze s).pending = s.pending := by
  unfold idleDoze
  split
  · exact enterDoze_pending s
  · rfl

@[simp] theorem returnToRun_pending (cause : WakeCause) (s : State) :
    (returnToRun cause s).pending = s.pending := offerPlain_pending ..

@[simp] theorem wakeByString_pending (order : List Str) (s : State) :
    (wakeByString order s).pending = s.pending := by
  unfold wakeByString
  split
  · split
    · rfl
    · simp [forStrings_pending fun n t => (wakeString_onlyString n t).pending]
  · rfl

theorem wakeByCommand_pending (s : State) : (wakeByCommand s).pending = s.pending := returnToRun_pending ..

@[simp] theorem endStart_pending (s : State) : (endStart s).pending = s.pending := by
  unfold endStart
  split
  · simp [forStrings_pending fun n t => (enterQuiet_onlyString n t).pending]
  · rfl

/-! ## Resets (R174, R175) -/

theorem powerOn_pending (straps : Straps) (s : State) : (powerOn straps s).pending = s.pending := rfl

theorem supplyDrop_pending (straps : Straps) (s : State) : (supplyDrop straps s).pending = s.pending := rfl

theorem pinReset_pending (s : State) : (pinReset s).pending = s.pending := rfl

theorem pinReleased_pending (straps : Straps) (s : State) : (pinReleased straps s).pending = s.pending := by
  unfold pinReleased
  split <;> rfl

@[simp] theorem restartReset_pending (straps : Straps) (s : State) :
    (restartReset straps s).pending = s.pending := by
  unfold restartReset
  split <;> rfl

/-! ## The link (R163, R164, R167) -/

theorem receiveByte_pending (b : Byte) (stopHigh : Bool) (s : State) :
    (receiveByte b stopHigh s).pending = s.pending := by
  unfold receiveByte
  split
  · dsimp only
    split <;> rfl
  · rfl

@[simp] theorem byteTimeout_pending (s : State) : (byteTimeout s).pending = s.pending := by
  unfold byteTimeout
  split <;> rfl

theorem transmitTake_pending (s : State) : (transmitTake s).pending = s.pending := by
  unfold transmitTake
  split
  · split
    · rfl
    · split
      · exact updateBacklog_pending _
      · rfl
    · rfl
  · rfl

theorem frameSent_pending (s : State) : (frameSent s).pending = s.pending := by
  unfold frameSent
  split <;> rfl

/-! ## FRAME_END and SAMPLE -/

@[simp] theorem takeFrameEnd_pending (damp : Bool) (s : State) : (takeFrameEnd damp s).pending = s.pending := by
  unfold takeFrameEnd
  split
  · dsimp only
    rw [modeFrameEnd_only]
    rfl
  · rfl

theorem clipAtSample_pending (signals : Eight Int) (n : Str) (s : State) :
    (clipAtSample signals n s).pending = s.pending := by
  unfold clipAtSample
  dsimp only
  split
  · exact (raiseCondition_onlyString ..).pending
  · rfl

theorem takeSample_pending (signals : Eight Int) (order : List Str) (s : State) :
    (takeSample signals order s).pending = s.pending := by
  rw [takeSample_eq, forStrings_pending (clipAtSample_pending signals)]
  rfl

theorem settleRestart_pending (s : State) : (settleRestart s).pending = s.pending := by
  unfold settleRestart
  split
  · exact restartReset_pending ..
  · rfl

theorem settleFrame_pending (s : State) : (settleFrame s).pending = s.pending := by simp [settleFrame]

theorem settleDetection_pending (s : State) : (settleDetection s).pending = s.pending := by
  have conditions (n : Str) (t : State) :=
    (((endClip_onlyString n t).trans (openBecomesInactive_onlyString n _)).trans
      (openBecomesActive_onlyString n _)).pending
  have judgements (n : Str) (t : State) := ((judge_onlyString n t).trans (takeCompletion_onlyString n _)).pending
  exact (forStrings_pending judgements ..).trans (forStrings_pending conditions ..)

theorem settleTimers_pending (s : State) : (settleTimers s).pending = s.pending := by
  have voices (n : Str) (t : State) :=
    ((((bleedStep_onlyString n t).trans (expireAcquisition_onlyString n _)).trans (expireStall_onlyString n _)).trans
      (expireLost_onlyString n _)).pending
  have lines (n : Str) (t : State) := ((takeBoundary_onlyString n t).trans (expireDrop_onlyString n _)).pending
  exact (forStrings_pending lines ..).trans (forStrings_pending voices ..)

theorem settleModes_pending (s : State) : (settleModes s).pending = s.pending := by
  simp [settleModes, forStrings_pending fun n t => (takeCompletion_onlyString n t).pending]

theorem settle_pending (s : State) : (settle s).pending = s.pending := by
  have estimates (n : Str) (t : State) := ((takeCrossing_onlyString n t).trans (takeEstimate_onlyString n _)).pending
  unfold settle
  rw [settleModes_pending, settleTimers_pending, settleDetection_pending, settleFrame_pending,
    forStrings_pending estimates, settleRestart_pending]

/-! ## The handler's rules (R166) -/

theorem handle_pending {mine : Frame → Bool} {execute : Frame → State → State}
    (keeps : ∀ f t, (execute f t).pending = t.pending) (s : State) : (handle mine execute s).pending = s.pending := by
  unfold handle
  split
  · rfl
  · split
    · exact keeps ..
    · rfl

theorem command_pending {lengths : List Nat} {inStart : Bool} {rule : Byte → List Byte → State → State}
    (keeps : ∀ kind payload t, (rule kind payload t).pending = t.pending) (f : Frame) (s : State) :
    (command lengths inStart rule f s).pending = s.pending := by
  unfold command
  split
  · rfl
  · split
    · rfl
    · exact keeps ..

theorem refuseUnknown_pending (f : Frame) (s : State) : (refuseUnknown f s).pending = s.pending := rfl

theorem identRule_pending (kind : Byte) (payload : List Byte) (s : State) :
    (identRule kind payload s).pending = s.pending := by
  unfold identRule
  split <;> rfl

theorem statusRule_pending (kind : Byte) (payload : List Byte) (s : State) :
    (statusRule kind payload s).pending = s.pending := rfl

theorem setProfileRule_pending (kind : Byte) (payload : List Byte) (s : State) :
    (setProfileRule kind payload s).pending = s.pending := by
  unfold setProfileRule
  split
  · rfl
  · split
    · rfl
    · split
      · rfl
      · dsimp only
        split <;> rfl

theorem getProfileRule_pending (kind : Byte) (payload : List Byte) (s : State) :
    (getProfileRule kind payload s).pending = s.pending := by
  unfold getProfileRule
  split
  · rfl
  · dsimp only
    split <;> rfl

theorem commitRule_pending (kind : Byte) (payload : List Byte) (s : State) :
    (commitRule kind payload s).pending = s.pending := by
  unfold commitRule
  split
  · rfl
  · split
    · exact (forceCommit_onlyString ..).pending
    · rfl

theorem setGlobalRule_pending (kind : Byte) (payload : List Byte) (s : State) :
    (setGlobalRule kind payload s).pending = s.pending := by
  unfold setGlobalRule
  split
  · rfl
  · split
    · rfl
    · exact (updateBacklog_pending _).trans (changeDampMode_pending ..)

theorem getGlobalRule_pending (kind : Byte) (payload : List Byte) (s : State) :
    (getGlobalRule kind payload s).pending = s.pending := rfl

theorem clearMarkers_pending (kinds : KindSet) (strings : List Str) (s : State) :
    (clearMarkers kinds strings s).pending = s.pending :=
  forStrings_pending (op := fun n t => t.mod n (.clearNamed kinds)) (fun _ _ => rfl) strings s

theorem clearConditionsRule_pending (kind : Byte) (payload : List Byte) (s : State) :
    (clearConditionsRule kind payload s).pending = s.pending := by
  unfold clearConditionsRule
  split
  · rfl
  · split
    · rfl
    · exact clearMarkers_pending ..

theorem eventsRule_pending (kind : Byte) (payload : List Byte) (s : State) :
    (eventsRule kind payload s).pending = s.pending := by
  unfold eventsRule
  split <;> rfl

theorem flushRule_pending (kind : Byte) (payload : List Byte) (s : State) :
    (flushRule kind payload s).pending = s.pending :=
  forStrings_pending (fun n t => (flushVoice_onlyString n t).pending) ..

theorem releaseDampRule_pending (kind : Byte) (payload : List Byte) (s : State) :
    (releaseDampRule kind payload s).pending = s.pending := by
  unfold releaseDampRule
  split
  · split
    · exact setDampMute_pending ..
    · rfl
  · rfl

theorem lockRule_pending (kind : Byte) (payload : List Byte) (s : State) :
    (lockRule kind payload s).pending = s.pending := rfl

theorem dozeWakeRule_pending (kind : Byte) (payload : List Byte) (s : State) :
    (dozeWakeRule kind payload s).pending = s.pending := by
  unfold dozeWakeRule
  split
  · rw [reply_pending]
    split
    · exact enterDoze_pending s
    · rfl
  · rw [reply_pending]
    split
    · exact wakeByCommand_pending s
    · rfl
  · rfl

theorem readVoiceRule_pending (kind : Byte) (payload : List Byte) (s : State) :
    (readVoiceRule kind payload s).pending = s.pending := by
  unfold readVoiceRule
  split <;> rfl

theorem restartRule_pending (kind : Byte) (payload : List Byte) (s : State) :
    (restartRule kind payload s).pending = s.pending := by
  unfold restartRule
  split <;> rfl

/-! ## Every step -/

/-- The meaning answers a next state, with the queue of steps as it was. -/
def Completes (outcome : Host.Outcome State Fault Refusal) (s : State) : Prop :=
  ∃ t, outcome = .next t ∧ t.pending = s.pending

/-- A step that acts while RESET_N is released makes its operation, or nothing while the pin is low. -/
theorem completes_live {op : State → State} (keeps : ∀ t, (op t).pending = t.pending) (s : State) :
    Completes (.next (s.live op)) s := by
  refine ⟨_, rfl, ?_⟩
  unfold State.live
  split
  · rfl
  · exact keeps s

theorem completes_command {mine : Frame → Bool} {lengths : List Nat} {inStart : Bool}
    {rule : Byte → List Byte → State → State} (keeps : ∀ kind payload t, (rule kind payload t).pending = t.pending)
    (s : State) : Completes (.next (s.live (handle mine (command lengths inStart rule)))) s :=
  completes_live (handle_pending (command_pending keeps)) s

/-- A step of one string makes its operation, which reaches no further than that string and the queue of records. -/
theorem completes_string {n : Str} {op : State → State} (only : ∀ t, OnlyString n t (op t)) (s : State) :
    Completes (.next (s.live op)) s :=
  completes_live (fun t => (only t).pending) s

theorem exec_completes (i : Instr) (s : State) : Completes (exec i s) s := by
  cases i with
  | ident => exact completes_command identRule_pending s
  | status => exact completes_command statusRule_pending s
  | setProfile => exact completes_command setProfileRule_pending s
  | getProfile => exact completes_command getProfileRule_pending s
  | commit => exact completes_command commitRule_pending s
  | setGlobal => exact completes_command setGlobalRule_pending s
  | getGlobal => exact completes_command getGlobalRule_pending s
  | clearConditions => exact completes_command clearConditionsRule_pending s
  | events => exact completes_command eventsRule_pending s
  | flush => exact completes_command flushRule_pending s
  | releaseDamp => exact completes_command releaseDampRule_pending s
  | lock => exact completes_command lockRule_pending s
  | doze => exact completes_command dozeWakeRule_pending s
  | wake => exact completes_command dozeWakeRule_pending s
  | readVoice => exact completes_command readVoiceRule_pending s
  | restart => exact completes_command restartRule_pending s
  | unknownKind => exact completes_live (handle_pending refuseUnknown_pending) s
  | receivedByte byte stopHigh => exact completes_live (receiveByte_pending byte stopHigh) s
  | interByteTimeout => exact completes_live byteTimeout_pending s
  | transmitTake => exact completes_live transmitTake_pending s
  | frameSent => exact completes_live frameSent_pending s
  | restartReset straps => exact completes_live (restartReset_pending straps) s
  | powerOn straps => exact ⟨_, rfl, powerOn_pending straps s⟩
  | resetN => exact completes_live pinReset_pending s
  | supplyDrop straps => exact ⟨_, rfl, supplyDrop_pending straps s⟩
  | startEnd => exact completes_live endStart_pending s
  | sample signals order =>
    exact completes_live (fun t => (takeSample_pending signals order _).trans (settle_pending t)) s
  | crossing n => exact completes_string (takeCrossing_onlyString n) s
  | estimate n => exact completes_string (takeEstimate_onlyString n) s
  | frameEnd damp => exact completes_live (takeFrameEnd_pending damp) s
  | clipEnd n => exact completes_string (endClip_onlyString n) s
  | openActive n => exact completes_string (openBecomesActive_onlyString n) s
  | openEnd n => exact completes_string (openBecomesInactive_onlyString n) s
  | articulationJudgement n => exact completes_string (judge_onlyString n) s
  | releaseHoldExpiry n =>
    refine completes_string (n := n) (op := fun t => if reachesHold n t then judge n t else t) (fun t => ?_) s
    split
    · exact judge_onlyString n t
    · exact .refl n t
  | velocityCompletion n => exact completes_string (takeCompletion_onlyString n) s
  | bleedPerFrameStep n => exact completes_string (bleedStep_onlyString n) s
  | bleedWindowExpiry n =>
    refine completes_string (n := n) (op := fun t => if windowRunsOut n t then bleedStep n t else t) (fun t => ?_) s
    split
    · exact bleedStep_onlyString n t
    · exact .refl n t
  | acquisitionExpiry n => exact completes_string (expireAcquisition_onlyString n) s
  | stallExpiry n => exact completes_string (expireStall_onlyString n) s
  | lostLimitExpiry n => exact completes_string (expireLost_onlyString n) s
  | glideBoundary n => exact completes_string (takeBoundary_onlyString n) s
  | retriggerDropExpiry n => exact completes_string (expireDrop_onlyString n) s
  | dampAssertion => exact completes_live dampAsserted_pending s
  | dampDeassertion => exact completes_live dampDeasserted_pending s
  | idleDoze => exact completes_live idleDoze_pending s
  | wakeByString order => exact completes_live (wakeByString_pending order) s
  | resetNReleased straps => exact ⟨_, rfl, pinReleased_pending straps s⟩

/-- Settles O2, by the reach of the operation that each step makes. -/
theorem everyStepCompletes : Obligations.EveryStepCompletes := fun i s => exec_completes i s

end Sys2Proof.Machine
end
